-- ==== Sys2Proof/Word.lean ====
section
/-! DEFINITION. The bit-vector types of the core (00_scope.md R8 to R10). -/

namespace Sys2Proof

/-- Word16 (00_scope.md R9): an unsigned 16-bit word. -/
abbrev Word := BitVec 16

/-- A word address of the register space (20_memory.md R50). -/
abbrev Addr := BitVec 8

/-- A 128-bit key (00_scope.md R5 `KEY_BITS`). -/
abbrev Key128 := BitVec 128

/-- A 64-bit block as one number (00_scope.md R5 `BLOCK_BITS`). -/
abbrev Block64 := BitVec 64

/-- A SubkeySequence (00_scope.md R13): "an ordered sequence of exactly 52 Word16, index 0..51". -/
abbrev Subkeys := Vector Word 52

/-- The Block (10_state.md R26): an ordered 4-tuple of Word16, `x0` the most significant word. -/
structure Block where
  x0 : Word
  x1 : Word
  x2 : Word
  x3 : Word
deriving DecidableEq, Repr

end Sys2Proof
end

