-- ==== Sys2Proof/Syntax.lean ====
section
/-! DEFINITION. The twelve commands of 30_encoding.md R81, one constructor a row; every operand is implicit (R84). -/

namespace Sys2Proof

/-- A command (30_encoding.md R81). No command word has an operand field (R80), so no constructor has an argument. -/
inductive Instr where
  /-- `NOP`, word 0x0000 (43_control.md R180). -/
  | nop
  /-- `XOR`, word 0x0001 (40_primitives.md R110). -/
  | xor
  /-- `ADD`, word 0x0002 (40_primitives.md R111). -/
  | add
  /-- `ADDINV`, word 0x0003 (40_primitives.md R112). -/
  | addinv
  /-- `MUL`, word 0x0004 (40_primitives.md R113). -/
  | mul
  /-- `MULINV`, word 0x0005 (40_primitives.md R114). -/
  | mulinv
  /-- `EKGEN`, word 0x0006 (41_key_scheduler.md R143). -/
  | ekgen
  /-- `DKGEN`, word 0x0007 (41_key_scheduler.md R144). -/
  | dkgen
  /-- `XFORM.E`, word 0x0008 (42_round_engine.md R159). -/
  | xformE
  /-- `XFORM.D`, word 0x0009 (42_round_engine.md R160). -/
  | xformD
  /-- `ENCRYPT`, word 0x000A (42_round_engine.md R161). -/
  | encrypt
  /-- `DECRYPT`, word 0x000B (42_round_engine.md R162). -/
  | decrypt
deriving DecidableEq, Repr

end Sys2Proof
end

