-- ==== Sys2Proof/WellFormed.lean ====
section
/-! DEFINITION. Which command words are well formed (30_encoding.md R80, R83). A constructor of `Instr` has no operand, so
every instruction is well formed; what can be ill formed is a 16-bit command word, by either of the two checks of R83. -/

namespace Sys2Proof

/-- The field `ZERO` of `CMD16`, bits 15:4 (30_encoding.md R80). -/
def Word.zeroField (w : Word) : BitVec 12 := w.extractLsb' 4 12

/-- The field `OP` of `CMD16`, bits 3:0 (30_encoding.md R80). -/
def Word.opField (w : Word) : BitVec 4 := w.extractLsb' 0 4

/-- First check of R83: bits 15:4 must be 0x000. -/
def Word.zeroFieldOk (w : Word) : Bool := w.zeroField == 0#12

/-- Second check of R83: opcodes 0xC..0xF are reserved. -/
def Word.opFieldOk (w : Word) : Bool := w.opField < 0xC#4

/-- A command word that is one of the twelve commands (30_encoding.md R83). -/
def Word.wellFormed (w : Word) : Bool := w.zeroFieldOk && w.opFieldOk

/-- Every `Instr` is well formed: R80 gives a command no register field, no immediate and no mode bit. -/
def Instr.wellFormed : Instr → Bool := fun _ => true

end Sys2Proof
end

