-- ==== Sys2Proof/Decode.lean ====
section
/-! DEFINITION. The command decoder and the encoder (30_encoding.md R80 to R83, R85). -/

namespace Sys2Proof

/-- Why a word is no command (30_encoding.md R83). -/
inductive Illegal where
  /-- `word[15:4] != 0`. -/
  | zeroFieldSet
  /-- `OP` in 0xC..0xF. -/
  | reservedOpcode
deriving DecidableEq, Repr

/-- What the decoder makes of a word. -/
inductive Decoded where
  | ok (i : Instr)
  | illegal (r : Illegal)
deriving DecidableEq, Repr

/-- The row of R81 that an opcode names; 0xC..0xF are reserved (R83). -/
def decodeOp (op : BitVec 4) : Decoded :=
  match op.toNat with
  | 0x0 => .ok .nop
  | 0x1 => .ok .xor
  | 0x2 => .ok .add
  | 0x3 => .ok .addinv
  | 0x4 => .ok .mul
  | 0x5 => .ok .mulinv
  | 0x6 => .ok .ekgen
  | 0x7 => .ok .dkgen
  | 0x8 => .ok .xformE
  | 0x9 => .ok .xformD
  | 0xA => .ok .encrypt
  | 0xB => .ok .decrypt
  | _ => .illegal .reservedOpcode

/-- The decoder of R81, total on the 65536 words: "`word[15:4] != 0` -> illegal; else `OP = word[3:0]`; `OP >= 0xC` ->
illegal; else the row above". -/
def decode (w : Word) : Decoded :=
  if w.zeroFieldOk then decodeOp w.opField else .illegal .zeroFieldSet

/-- The opcode of a command (30_encoding.md R81, column `OP`); also what `CUR` holds (10_state.md R35). -/
def Instr.opcode : Instr → BitVec 4
  | .nop => 0x0#4
  | .xor => 0x1#4
  | .add => 0x2#4
  | .addinv => 0x3#4
  | .mul => 0x4#4
  | .mulinv => 0x5#4
  | .ekgen => 0x6#4
  | .dkgen => 0x7#4
  | .xformE => 0x8#4
  | .xformD => 0x9#4
  | .encrypt => 0xA#4
  | .decrypt => 0xB#4

/-- The command word of an instruction (30_encoding.md R80): `ZERO` then `OP`. -/
def encode (i : Instr) : Word := 0#12 ++ i.opcode

/-- The decoder on an instruction given as the number of its bits, bit 0 the least significant of the one 16-bit word; bits
above `nbits` are 0 (log 9). The core has one command length, 16 bits (R80). -/
def decodeTableWord (nbits w : Nat) : Option Instr :=
  if nbits ≤ 16 then
    match decode (BitVec.ofNat 16 (w % 2 ^ nbits)) with
    | .ok i => some i
    | .illegal _ => none
  else none

end Sys2Proof
end

