-- ==== Sys2Proof/Config.lean ====
section
/-! DEFINITION. The implementation parameters of 00_scope.md R5. "Every size in the source is fixed; none is left to the
implementation", and no result of any command is left open, so there is no free value here. `T_STEP` is not modelled
(92_eei_decisions.md D19). -/

namespace Sys2Proof.Config

/-- `MOD_ADD` (R5). -/
abbrev modAddModulus : Nat := 65536

/-- `MOD_MUL` (R5), "which is prime". -/
abbrev modMulModulus : Nat := 65537

/-- `ROT` (R5): key rotation per key-schedule iteration, to the left. -/
abbrev rot : Nat := 25

/-- `KS_ITER` (R5): key-schedule iterations. -/
abbrev ksIter : Nat := 7

/-- `NSUB` (R5): subkeys per sequence. -/
abbrev nSub : Nat := 52

/-- `NROUNDS` (R5): full rounds. -/
abbrev nRounds : Nat := 8

end Sys2Proof.Config
end

