-- ==== Sys2Proof/Machine/State.lean ====
section
/-! DEFINITION. The architectural state of IDEA-CORE (10_state.md R20), the host agent's pending lines, and the reset state
(10_state.md R38). -/

namespace Sys2Proof.Machine

/-- The sequencer phase `PH` (10_state.md R35). -/
inductive Phase where
  /-- 0: no command in progress. -/
  | idle
  /-- 1: encryption key schedule. -/
  | kse
  /-- 2: decryption key schedule. -/
  | ksd
  /-- 3: round engine. -/
  | rnd
deriving DecidableEq, Repr

/-- The error causes (60_exceptions.md R191). -/
inductive Cause where
  /-- `E_LEN`, code 1. -/
  | len
  /-- `E_KEYLEN`, code 2. -/
  | keylen
  /-- `E_SUBKEYS`, code 3. -/
  | subkeys
  /-- `E_ILLCMD`, code 4. -/
  | illcmd
  /-- `E_BUSY`, code 5. -/
  | busy
  /-- `E_ADDR`, code 6. -/
  | addr
deriving DecidableEq, Repr

/-- The named registers of the register space (20_memory.md R51). -/
inductive Reg where
  | key (j : Fin 8)
  | x (j : Fin 4)
  | opa
  | opb
  | res
  | cmd
  | status
  | seq
  | masks
  | kr (j : Fin 8)
  | ek (i : Fin 52)
  | dk (i : Fin 52)
deriving DecidableEq, Repr

/-- The two agents (00_scope.md R6). -/
inductive Agent where
  | host
  | core
deriving DecidableEq, Repr

/-- A line of a host program (30_encoding.md R86); a `CMD` line is a `wr` of the command word to 0x10, a comment is no line. -/
inductive HostLine where
  /-- `RST`: the action `Reset` (70_reset_and_hazards.md R220). -/
  | rst
  /-- `WR`: `HostWrite(a, v)` (20_memory.md R53). -/
  | wr (a : Addr) (v : Word)
  /-- `RD`: `HostRead(a)`, the value goes to the host's log (20_memory.md R52). -/
  | rd (a : Addr)
  /-- `WAIT`: read STATUS until `BUSY` reads 0. -/
  | wait
deriving DecidableEq, Repr

/-- The complete architectural state (10_state.md R20), then the model's own fields for the host agent (log 1, 2, 3). -/
structure State where
  /-- `KEY[0..7]` (R21). -/
  key : Vector Word 8
  /-- `KW` (R22). -/
  kw : BitVec 8
  /-- `KR` (R23). -/
  kr : Key128
  /-- `EK[0..51]` (R24). -/
  ek : Subkeys
  /-- `DK[0..51]` (R25). -/
  dk : Subkeys
  /-- `X[0..3]` (R26). -/
  x : Block
  /-- `XW` (R27). -/
  xw : BitVec 4
  /-- `OPA` (R28). -/
  opa : Word
  /-- `OPB` (R28). -/
  opb : Word
  /-- `RES` (R28). -/
  res : Word
  /-- `DONE` (R32). -/
  done : Bool
  /-- `KV` (R30). -/
  kv : Bool
  /-- `DV` (R31). -/
  dv : Bool
  /-- `ERR`, bit `c - 1` for cause code `c` (R34). -/
  err : BitVec 6
  /-- `PH` (R35). -/
  ph : Phase
  /-- `CNT` (R35). -/
  cnt : BitVec 4
  /-- `CUR` (R35). -/
  cur : BitVec 4
  /-- The model's own: the host program's lines not yet performed (30_encoding.md R86; log 1, DESIGN CHOICE). -/
  host : List HostLine
  /-- The model's own: which agent moves next, at each moment when both can (20_memory.md R67; log 2, DESIGN CHOICE). -/
  turns : List Agent
  /-- The model's own: the host's log of what its `RD` lines read, oldest first (R86; log 3, DESIGN CHOICE). -/
  log : List (Addr × Word)
deriving DecidableEq, Repr

/-- Why the machine stops. None of the spec's errors is one of these: they are sticky bits (60_exceptions.md R190). -/
inductive Fault where
  /-- Raised by a core step in a combination of `PH`, `CNT`, `CUR` that 43_control.md R182 has no row for. "No other combination
  of `PH` and `CUR` is reachable from reset". Safe: the model stops where the spec gives no effect (log 4). -/
  | noSequencerRow
deriving DecidableEq, Repr

/-- Why an instruction has no meaning in the model. -/
inductive Refusal where
  /-- Raised by an arm of `exec` whose instruction has no meaning yet; no arm is one. Safe: the model stops. -/
  | notModelled (mnemonic : String)
deriving DecidableEq, Repr

/-- A word store of a given length, all 0x0000 (10_state.md R38). -/
def State.zeroWords (n : Nat) : Vector Word n := Vector.replicate n 0#16

/-- The state after reset (10_state.md R38): every element zero, `PH = IDLE`; the host agent has no line pending (log 1). -/
def State.reset : State where
  key := State.zeroWords 8
  kw := 0
  kr := 0
  ek := State.zeroWords 52
  dk := State.zeroWords 52
  x := { x0 := 0, x1 := 0, x2 := 0, x3 := 0 }
  xw := 0
  opa := 0
  opb := 0
  res := 0
  done := false
  kv := false
  dv := false
  err := 0
  ph := .idle
  cnt := 0
  cur := 0
  host := []
  turns := []
  log := []

end Sys2Proof.Machine
end

