-- ==== Sys2Proof/Machine/Flags.lean ====
section
/-! DEFINITION. The status bits and the read-only views computed from them (10_state.md R29 to R36, 20_memory.md R60,
60_exceptions.md R191, R200). The core has no condition codes (40_primitives.md R108). -/

namespace Sys2Proof.Machine

/-- The two bits of `PH` (10_state.md R35). -/
def phaseCode : Phase → BitVec 2
  | .idle => 0#2
  | .kse => 1#2
  | .ksd => 2#2
  | .rnd => 3#2

/-- `BUSY`, derived: 1 when `PH != 0` (10_state.md R33). -/
def State.busy (s : State) : Bool := s.ph != .idle

/-- The code of a cause (60_exceptions.md R191). -/
def causeCode : Cause → Nat
  | .len => 1
  | .keylen => 2
  | .subkeys => 3
  | .illcmd => 4
  | .busy => 5
  | .addr => 6

/-- The bit `ERR[c-1]` of cause code `c` (10_state.md R29, R34). -/
def causeMask (c : Cause) : BitVec 6 := 1#6 <<< (causeCode c - 1)

/-- STATUS (10_state.md R29). -/
def statusWord (s : State) : Word :=
  0#2 ++ s.err ++ 0#4 ++ BitVec.ofBool s.dv ++ BitVec.ofBool s.kv ++ BitVec.ofBool s.done ++ BitVec.ofBool s.busy

/-- SEQ (10_state.md R35). -/
def seqWord (s : State) : Word := 0#6 ++ s.cur ++ s.cnt ++ phaseCode s.ph

/-- MASKS (10_state.md R36). -/
def masksWord (s : State) : Word := 0#4 ++ s.xw ++ s.kw

/-- The bits of a STATUS write that clear error bits, 13:8 (20_memory.md R58). -/
def statusClearField (v : Word) : BitVec 6 := v.extractLsb' 8 6

/-- `KW = 0xFF`: all eight key words written since reset (10_state.md R22). -/
def keyComplete (s : State) : Bool := s.kw == 0xFF#8

/-- `XW = 0xF`: all four block words written since reset (10_state.md R27). -/
def blockComplete (s : State) : Bool := s.xw == 0xF#4

/-- The output line `busy` (60_exceptions.md R200). -/
def busyLine (s : State) : Bool := s.busy

/-- The output line `done` (60_exceptions.md R200). -/
def doneLine (s : State) : Bool := s.done

/-- The output line `err` (60_exceptions.md R200). -/
def errLine (s : State) : Bool := s.err != 0#6

end Sys2Proof.Machine
end

