-- ==== Sys2Proof/Machine/Operands.lean ====
section
/-! DEFINITION. The operands of the commands, all implicit (30_encoding.md R84): how words make a key and a block (00_scope.md
R10, 20_memory.md R61, R62), how the subkey stores are indexed (R66), and the register map (R51). -/

namespace Sys2Proof.Machine

/-- `seg(K, j) = K[127-16j : 112-16j]`, `j = 0..7` (00_scope.md R10). -/
def seg (K : Key128) (j : Nat) : Word := K.extractLsb' (112 - 16 * j) 16

/-- The block as one number, `X0 ‖ X1 ‖ X2 ‖ X3` (R10). -/
def blockBits (b : Block) : Block64 := b.x0 ++ b.x1 ++ b.x2 ++ b.x3

/-- A 64-bit block split "into four consecutive 16-bit segments in order" (R10). -/
def blockOfBits (B : Block64) : Block where
  x0 := B.extractLsb' 48 16
  x1 := B.extractLsb' 32 16
  x2 := B.extractLsb' 16 16
  x3 := B.extractLsb' 0 16

/-- `X[j]` (10_state.md R26). -/
def blockWord (b : Block) (j : Fin 4) : Word :=
  match j with
  | 0 => b.x0
  | 1 => b.x1
  | 2 => b.x2
  | 3 => b.x3

/-- `X[j] <- v` (20_memory.md R55). -/
def blockSet (b : Block) (j : Fin 4) (v : Word) : Block :=
  match j with
  | 0 => { b with x0 := v }
  | 1 => { b with x1 := v }
  | 2 => { b with x2 := v }
  | 3 => { b with x3 := v }

/-- The MasterKey, `KEY[0] ‖ KEY[1] ‖ ... ‖ KEY[7]` (10_state.md R21). -/
def keyBits (k : Vector Word 8) : Key128 :=
  k[0] ++ k[1] ++ k[2] ++ k[3] ++ k[4] ++ k[5] ++ k[6] ++ k[7]

/-- The read `SK[i]` of a subkey store. Every index a rule produces lies in 0..51 and no bounds fault exists (20_memory.md R66);
outside that range, which no read reaches, the function is 0 to be total (log 8). -/
def subkey (S : Subkeys) (i : Nat) : Word := if h : i < 52 then S[i] else 0#16

/-- The store the round engine reads (42_round_engine.md R158): `EK` when the mode selector `CUR[0]` is 0, `DK` when it is 1. -/
def selectedSubkeys (s : State) : Subkeys := if s.cur.getLsbD 0 then s.dk else s.ek

/-- The register a word address names, `none` for an unmapped address (20_memory.md R51). -/
def regOfAddr (a : Addr) : Option Reg :=
  let n := a.toNat
  if h : n < 0x08 then some (.key ⟨n, h⟩)
  else if h : n < 0x0C then some (.x ⟨n - 0x08, by omega⟩)
  else if n = 0x0C then some .opa
  else if n = 0x0D then some .opb
  else if n = 0x0E then some .res
  else if n = 0x0F then none
  else if n = 0x10 then some .cmd
  else if n = 0x11 then some .status
  else if n = 0x12 then some .seq
  else if n = 0x13 then some .masks
  else if n < 0x18 then none
  else if h : n < 0x20 then some (.kr ⟨n - 0x18, by omega⟩)
  else if n < 0x40 then none
  else if h : n < 0x74 then some (.ek ⟨n - 0x40, by omega⟩)
  else if n < 0x80 then none
  else if h : n < 0xB4 then some (.dk ⟨n - 0x80, by omega⟩)
  else none

/-- The word address of a register (20_memory.md R51; the `addr(name)` of 30_encoding.md R86). -/
def addrOfReg : Reg → Addr
  | .key j => BitVec.ofNat 8 (0x00 + j)
  | .x j => BitVec.ofNat 8 (0x08 + j)
  | .opa => 0x0C#8
  | .opb => 0x0D#8
  | .res => 0x0E#8
  | .cmd => 0x10#8
  | .status => 0x11#8
  | .seq => 0x12#8
  | .masks => 0x13#8
  | .kr j => BitVec.ofNat 8 (0x18 + j)
  | .ek i => BitVec.ofNat 8 (0x40 + i)
  | .dk i => BitVec.ofNat 8 (0x80 + i)

/-- The registers the map of R51 marks `RO`; STATUS is apart, its write is R58. -/
def regReadOnly : Reg → Bool
  | .res | .seq | .masks | .kr _ | .ek _ | .dk _ => true
  | .key _ | .x _ | .opa | .opb | .cmd | .status => false

/-- A byte buffer as one number, byte 0 the most significant (20_memory.md R62). -/
def numberOfBytes (bytes : List (BitVec 8)) : Nat := bytes.foldl (fun n b => n * 256 + b.toNat) 0

/-- A block presented as "an 8-byte buffer" (R62); the packing is done by the host. -/
def blockOfBytes (bytes : Vector (BitVec 8) 8) : Block64 := BitVec.ofNat 64 (numberOfBytes bytes.toList)

/-- A key presented as a 16-byte buffer (R62); the packing is done by the host. -/
def keyOfBytes (bytes : Vector (BitVec 8) 16) : Key128 := BitVec.ofNat 128 (numberOfBytes bytes.toList)

end Sys2Proof.Machine
end

