-- ==== Sys2Proof/Machine/Ops.lean ====
section
/-! DEFINITION. The shared operations: raising an error, which is all the "exception entry" the core has (60_exceptions.md R190,
R199), acknowledging it (R201), starting and completing a command (43_control.md R181, R183), the writes of host-writable
registers (20_memory.md R54 to R58) and `Reset` (70_reset_and_hazards.md R220). -/

namespace Sys2Proof.Machine

/-- `raise E_c` (60_exceptions.md R190): the sticky bit of the cause, and no other change. -/
def State.raise (s : State) (c : Cause) : State := { s with err := s.err ||| causeMask c }

/-- The host's acknowledgement of errors, the write of `v` to STATUS (20_memory.md R58): `ERR <- ERR and not v[13:8]`. -/
def State.acknowledge (s : State) (v : Word) : State := { s with err := s.err &&& ~~~ statusClearField v }

/-- `DONE <- 0`, the first line of acceptance (43_control.md R181). -/
def State.clearDone (s : State) : State := { s with done := false }

/-- `CUR <- op`, the line "accepted" of R181. -/
def State.accept (s : State) (i : Instr) : State := { s with cur := i.opcode }

/-- `RES <- v` (40_primitives.md R108). -/
def State.setRes (s : State) (v : Word) : State := { s with res := v }

/-- `complete` (43_control.md R183). -/
def State.complete (s : State) : State := { s with ph := .idle, cnt := 0#4, done := true }

/-- Start of phase `KSE` (41_key_scheduler.md R136). -/
def State.startKse (s : State) : State :=
  { s with kr := keyBits s.key, kv := false, dv := false, ph := .kse, cnt := 0#4 }

/-- Start of phase `KSD` (41_key_scheduler.md R139). -/
def State.startKsd (s : State) : State := { s with dv := false, ph := .ksd, cnt := 0#4 }

/-- Start of phase `RND` (42_round_engine.md R157). -/
def State.startRnd (s : State) : State := { s with ph := .rnd, cnt := 0#4 }

/-- Host write to `KEYj` (20_memory.md R54). -/
def State.writeKey (s : State) (j : Fin 8) (v : Word) : State :=
  { s with key := s.key.set j v, kw := s.kw ||| (1#8 <<< j.val), kv := false, dv := false }

/-- Host write to `Xj` (20_memory.md R55). -/
def State.writeX (s : State) (j : Fin 4) (v : Word) : State :=
  { s with x := blockSet s.x j v, xw := s.xw ||| (1#4 <<< j.val) }

/-- Host write to `OPA` (20_memory.md R56). -/
def State.writeOpa (s : State) (v : Word) : State := { s with opa := v }

/-- Host write to `OPB` (20_memory.md R56). -/
def State.writeOpb (s : State) (v : Word) : State := { s with opb := v }

/-- `Reset` (70_reset_and_hazards.md R220, R221): every element of architectural state takes its reset value, in any state. The
host agent is outside the core and goes on with its own lines (log 6). -/
def State.resetCore (s : State) : State :=
  { State.reset with host := s.host, turns := s.turns, log := s.log }

/-- A check of acceptance: `KW != 0xFF` raises `E_KEYLEN` (43_control.md R181). -/
def needKey (s : State) : Option Cause := if keyComplete s then none else some .keylen

/-- A check of acceptance: `KV = 0` raises `E_SUBKEYS` (43_control.md R181). -/
def needEk (s : State) : Option Cause := if s.kv then none else some .subkeys

/-- A check of acceptance: `DV = 0` raises `E_SUBKEYS` (43_control.md R181). -/
def needDk (s : State) : Option Cause := if s.dv then none else some .subkeys

/-- A check of acceptance: `XW != 0xF` raises `E_LEN` (43_control.md R181). -/
def needBlock (s : State) : Option Cause := if blockComplete s then none else some .len

/-- No check of its own (40_primitives.md R108, 43_control.md R180). -/
def needNothing (_ : State) : Option Cause := none

/-- Two checks in order; the first that fails is the one recorded (60_exceptions.md R198). -/
def firstOf (p q : State → Option Cause) (s : State) : Option Cause := (p s).or (q s)

/-- Issuing a command, the write of its word to CMD: while busy it is dropped with `E_BUSY` (20_memory.md R53, R71); else
`DONE <- 0`, then the checks, then `CUR <- op` and the command's own start (43_control.md R181). -/
def issue (i : Instr) (check : State → Option Cause) (start : State → State) (s : State) :
    Host.Outcome State Fault Refusal :=
  if s.busy then .next (s.raise .busy)
  else
    match check s with
    | some c => .next (s.clearDone.raise c)
    | none => .next (start (s.clearDone.accept i))

end Sys2Proof.Machine
end

