-- ==== Sys2Proof/Machine/Control.lean ====
section
/-! DEFINITION. The command that does nothing (43_control.md R180). -/

namespace Sys2Proof.Machine

/-- `NOP` (R180): `CUR <- 0`; `complete`. -/
def execNop (s : State) : Host.Outcome State Fault Refusal := issue .nop needNothing State.complete s

end Sys2Proof.Machine
end

