-- ==== Sys2Proof/Machine/Arith.lean ====
section
/-! DEFINITION. The modular arithmetic primitives as pure functions (40_primitives.md R100 to R105). -/

namespace Sys2Proof.Machine

/-- `xor(a, b)` on bit strings, most significant first (R100); `none` is the failure LengthMismatch. No command reaches it: in
the hardware every operand is a Word16 (R109). -/
def xorBits (a b : List Bool) : Option (List Bool) :=
  if a.length = b.length then some (List.zipWith Bool.xor a b) else none

/-- The 16-character bit string of a word, "big-endian, most-significant bit first" (00_scope.md R8). -/
def bitsOfWord (a : Word) : List Bool := (List.range 16).map fun i => a.getLsbD (15 - i)

/-- `xor16(a, b)` (R101). -/
def xor16 (a b : Word) : Word := a ^^^ b

/-- `modAdd(a, b) = (a + b) mod 65536` (R102). -/
def modAdd (a b : Word) : Word := BitVec.ofNat 16 ((a.toNat + b.toNat) % Config.modAddModulus)

/-- `modAddInverse(a) = (65536 - a) mod 65536` (R103). -/
def modAddInverse (a : Word) : Word := BitVec.ofNat 16 ((Config.modAddModulus - a.toNat) % Config.modAddModulus)

/-- The element of 1..65536 that a word stands for in the multiplicative group: the zero pattern stands for 65536 (R104). -/
def toGroup (a : Word) : Nat := if a.toNat = 0 then 65536 else a.toNat

/-- The word that stands for `p` in 1..65536: 65536 is written as the zero pattern (R104). -/
def ofGroup (p : Nat) : Word := if p = 65536 then 0#16 else BitVec.ofNat 16 p

/-- `modMul(a, b)` (R104), under the zero convention of 90_conflicts.md C1. -/
def modMul (a b : Word) : Word := ofGroup (toGroup a * toGroup b % Config.modMulModulus)

/-- One squaring and one multiplication by `a`, modulo 65537. -/
def squareMul (a r : Nat) : Nat := r * r % Config.modMulModulus * a % Config.modMulModulus

/-- `a ^ (2 ^ k - 1) mod 65537`, by squaring and multiplying `k` times. -/
def powLoop (a : Nat) : Nat → Nat
  | 0 => 1
  | k + 1 => squareMul a (powLoop a k)

/-- `modMulInverse(a)` (R105), by the method R105 names as conforming, `a' ^ 65535 mod 65537`, with 65535 = 2 ^ 16 - 1 (log 5). -/
def modMulInverse (a : Word) : Word := ofGroup (powLoop (toGroup a) 16)

/-- The variables of the extended Euclidean loop of R105: `a'`, `m`, and the signed `x`, `y`. -/
structure Euclid where
  a : Nat
  m : Nat
  x : Int
  y : Int
deriving DecidableEq, Repr

/-- The loop "while a' > 1" of R105, at most `fuel` times. -/
def euclidLoop : Nat → Euclid → Euclid
  | 0, e => e
  | fuel + 1, e =>
    if 1 < e.a then
      euclidLoop fuel { a := e.m, m := e.a % e.m, x := e.y, y := e.x - (e.a / e.m : Nat) * e.y }
    else e

/-- The extended Euclidean method R105 gives as an illustration (93_implementation_defined.md G1). No command reaches it: it is
here to be held against `modMulInverse`. The loop ends within 32 turns on every operand. -/
def modMulInverseEuclid (a : Word) : Word :=
  let e := euclidLoop 32 { a := toGroup a, m := Config.modMulModulus, x := 1, y := 0 }
  ofGroup (if e.x < 0 then e.x + Config.modMulModulus else e.x).toNat

/-- The multiplier of R107 that avoids the division (93_implementation_defined.md G2). No command reaches it: it is here to be held
against `modMul`. -/
def modMulLowHigh (a b : Word) : Word :=
  if a = 0#16 then 1#16 - b
  else if b = 0#16 then 1#16 - a
  else
    let p := a.toNat * b.toNat
    let lo := p % 65536
    let hi := p / 65536
    BitVec.ofNat 16 ((lo + 65536 - hi + if lo < hi then 1 else 0) % 65536)

end Sys2Proof.Machine
end

