-- ==== Sys2Proof/Machine/KeyScheduler.lean ====
section
/-! DEFINITION. The key scheduler: its two functions (41_key_scheduler.md R130, R131, R134), the work of one core step of each of
its phases (R137, R140), and the commands `EKGEN` and `DKGEN` (R143, R144). -/

namespace Sys2Proof.Machine

/-- `rotl128(K, n) = ((K * 2^n) mod 2^128) + (K div 2^(128-n))` for `0 <= n < 128` (R130). -/
def rotl128 (K : Key128) (n : Nat) : Key128 := (K <<< n) ||| (K >>> (128 - n))

/-- The eight segments of a key in order (00_scope.md R10). -/
def segments (K : Key128) : List Word := (List.range 8).map (seg K)

/-- The loop of R131: append the eight segments, then rotate the key left by 25, `n` times. -/
def ekLoop : Nat → Key128 → List Word
  | 0, _ => []
  | n + 1, cur => segments cur ++ ekLoop n (rotl128 cur Config.rot)

/-- The loop makes eight words a turn; the store below needs its length. -/
theorem ekLoop_length (n : Nat) (K : Key128) : (ekLoop n K).length = 8 * n := by
  induction n generalizing K with
  | zero => rfl
  | succ n ih => simp [ekLoop, segments, ih]; omega

/-- `generateEncryptionSubkeys(K)` (R131): seven turns make 56 words, the first 52 are kept. -/
def generateEncryptionSubkeys (K : Key128) : Subkeys :=
  ⟨((ekLoop Config.ksIter K).take Config.nSub).toArray, by simp [ekLoop_length, Config.nSub, Config.ksIter]⟩

/-- Word `d` of group `i` of R134, `i = 0..7`, `d = 0..5`: the two middle words are crossed but for `i = 0`. -/
def dkGroupWord (E : Subkeys) (i d : Nat) : Word :=
  let base := 46 - 6 * i
  match d with
  | 0 => modMulInverse (subkey E (base + 2))
  | 1 => modAddInverse (subkey E (base + if i = 0 then 3 else 4))
  | 2 => modAddInverse (subkey E (base + if i = 0 then 4 else 3))
  | 3 => modMulInverse (subkey E (base + 5))
  | 4 => subkey E base
  | _ => subkey E (base + 1)

/-- Word `d` of the final four of R134, `D[48 + d]`, `d = 0..3`. -/
def dkFinalWord (E : Subkeys) (d : Nat) : Word :=
  match d with
  | 0 => modMulInverse (subkey E 0)
  | 1 => modAddInverse (subkey E 1)
  | 2 => modAddInverse (subkey E 2)
  | _ => modMulInverse (subkey E 3)

/-- `D[k]` of R134: group `k / 6`, the ninth group being the final four. -/
def dkWord (E : Subkeys) (k : Nat) : Word :=
  if k / 6 ≤ 7 then dkGroupWord E (k / 6) (k % 6) else dkFinalWord E (k % 6)

/-- `generateDecryptionSubkeys(E)` (R134). -/
def generateDecryptionSubkeys (E : Subkeys) : Subkeys := Vector.ofFn fun k => dkWord E k.val

/-- The writes of core step `n` of phase `KSE` to the store (R137): `EK[8n + j] <- seg(KR, j)` for `j = 0..7`, `8n + j <= 51`. Irreducible so that
no proof unfolds a store of 52 words by accident; its lemma is `kseWrite_getElem`. -/
@[irreducible] def kseWrite (E : Subkeys) (K : Key128) (n : Nat) : Subkeys :=
  Vector.ofFn fun i => if i.val / 8 = n then seg K (i.val % 8) else E[i]

/-- The data writes of one core step of phase `KSE` with `CNT = n` (R137), the segments taken before the rotation. -/
def State.kseData (s : State) : State :=
  { s with ek := kseWrite s.ek s.kr s.cnt.toNat, kr := rotl128 s.kr Config.rot }

/-- The writes of core step `i` of phase `KSD` to the store (R140): group `i`, the ninth step writing the final four.
Irreducible like `kseWrite`; its lemma is `ksdWrite_getElem`. -/
@[irreducible] def ksdWrite (D E : Subkeys) (i : Nat) : Subkeys :=
  Vector.ofFn fun k => if k.val / 6 = i then dkWord E k.val else D[k]

/-- The data writes of one core step of phase `KSD` with `CNT = i` (R140); `EK` is only read. -/
def State.ksdData (s : State) : State := { s with dk := ksdWrite s.dk s.ek s.cnt.toNat }

/-- `KV <- 1`, at the last step of phase `KSE` (R137). -/
def State.setKv (s : State) : State := { s with kv := true }

/-- `DV <- 1`, at the last step of phase `KSD` (R140). -/
def State.setDv (s : State) : State := { s with dv := true }

/-- `CNT <- CNT + 1` (R137, R140, 42_round_engine.md R158). -/
def State.count (s : State) : State := { s with cnt := s.cnt + 1#4 }

/-- `EKGEN` (R143): needs the whole key written; starts phase `KSE`. -/
def execEkgen (s : State) : Host.Outcome State Fault Refusal := issue .ekgen needKey State.startKse s

/-- `DKGEN` (R144): needs `KV`; starts phase `KSD`. -/
def execDkgen (s : State) : Host.Outcome State Fault Refusal := issue .dkgen needEk State.startKsd s

end Sys2Proof.Machine
end

