-- ==== Sys2Proof/Machine/Primitives.lean ====
section
/-! DEFINITION. The five primitive commands (40_primitives.md R108, R110 to R114): on acceptance, in the same transition, `RES`
takes the function's value and the command completes. -/

namespace Sys2Proof.Machine

/-- Common behaviour of the primitive commands (R108): no check of its own, `RES <- f`, `complete`. -/
def primitive (i : Instr) (f : State → Word) (s : State) : Host.Outcome State Fault Refusal :=
  issue i needNothing (fun t => (t.setRes (f t)).complete) s

/-- `XOR` (R110): `RES <- xor16(OPA, OPB)`. -/
def execXor (s : State) : Host.Outcome State Fault Refusal := primitive .xor (fun t => xor16 t.opa t.opb) s

/-- `ADD` (R111): `RES <- modAdd(OPA, OPB)`. -/
def execAdd (s : State) : Host.Outcome State Fault Refusal := primitive .add (fun t => modAdd t.opa t.opb) s

/-- `ADDINV` (R112): `RES <- modAddInverse(OPA)`. -/
def execAddinv (s : State) : Host.Outcome State Fault Refusal := primitive .addinv (fun t => modAddInverse t.opa) s

/-- `MUL` (R113): `RES <- modMul(OPA, OPB)`. -/
def execMul (s : State) : Host.Outcome State Fault Refusal := primitive .mul (fun t => modMul t.opa t.opb) s

/-- `MULINV` (R114): `RES <- modMulInverse(OPA)`. -/
def execMulinv (s : State) : Host.Outcome State Fault Refusal := primitive .mulinv (fun t => modMulInverse t.opa) s

end Sys2Proof.Machine
end

