-- ==== Sys2Proof/Machine/RoundEngine.lean ====
section
/-! DEFINITION. The round engine: its functions (42_round_engine.md R150 to R154), the work of one core step of phase `RND` (R158),
and the commands `XFORM.E`, `XFORM.D`, `ENCRYPT`, `DECRYPT` (R159 to R162). -/

namespace Sys2Proof.Machine

/-- The six subkeys of a full round (R150). -/
structure RoundKeys where
  k0 : Word
  k1 : Word
  k2 : Word
  k3 : Word
  k4 : Word
  k5 : Word
deriving DecidableEq, Repr

/-- The four values of a round that are handed on (R150). -/
structure RoundOut where
  eleven : Word
  twelve : Word
  thirteen : Word
  fourteen : Word
deriving DecidableEq, Repr

/-- The fourteen lines of one full round, "in this exact dependency order" (R150). -/
def roundLines (X : Block) (k : RoundKeys) : RoundOut :=
  let one := modMul X.x0 k.k0
  let two := modAdd X.x1 k.k1
  let three := modAdd X.x2 k.k2
  let four := modMul X.x3 k.k3
  let five := xor16 one three
  let six := xor16 two four
  let seven := modMul five k.k4
  let eight := modAdd six seven
  let nine := modMul eight k.k5
  let ten := modAdd seven nine
  { eleven := xor16 one nine, twelve := xor16 three nine, thirteen := xor16 two ten, fourteen := xor16 four ten }

/-- The hand-on to the next round, untwisted on the last round only (R151). -/
def handOn (o : RoundOut) (last : Bool) : Block :=
  if last then { x0 := o.eleven, x1 := o.thirteen, x2 := o.twelve, x3 := o.fourteen }
  else { x0 := o.eleven, x1 := o.twelve, x2 := o.thirteen, x3 := o.fourteen }

/-- The subkeys of round `r`: `Kj = subkeys[6*round + j]` (R150). -/
def roundKeys (S : Subkeys) (r : Nat) : RoundKeys where
  k0 := subkey S (6 * r)
  k1 := subkey S (6 * r + 1)
  k2 := subkey S (6 * r + 2)
  k3 := subkey S (6 * r + 3)
  k4 := subkey S (6 * r + 4)
  k5 := subkey S (6 * r + 5)

/-- Round `r` of `transform`: `round(X, S[6r], .., S[6r+5], last = (r = 7))` (R151, R153). -/
def fullRound (S : Subkeys) (r : Nat) (X : Block) : Block := handOn (roundLines X (roundKeys S r)) (r == 7)

/-- The output transformation (R152). -/
def outT (S : Subkeys) (X : Block) : Block where
  x0 := modMul X.x0 (subkey S 48)
  x1 := modAdd X.x1 (subkey S 49)
  x2 := modAdd X.x2 (subkey S 50)
  x3 := modMul X.x3 (subkey S 51)

/-- The block after rounds `0 .. n-1` (R153, the loop `for r = 0..7`). -/
def roundsUpTo (S : Subkeys) : Nat → Block → Block
  | 0, X => X
  | n + 1, X => fullRound S n (roundsUpTo S n X)

/-- `transform` on the block as a 4-tuple (R153). -/
def transformBlock (S : Subkeys) (X : Block) : Block := outT S (roundsUpTo S Config.nRounds X)

/-- `transform(B, S)` (R153). -/
def transform (B : Block64) (S : Subkeys) : Block64 := blockBits (transformBlock S (blockOfBits B))

/-- `encrypt(B, K)` (R154). -/
def encrypt (B : Block64) (K : Key128) : Block64 := transform B (generateEncryptionSubkeys K)

/-- `decrypt(B, K)` (R154). -/
def decrypt (B : Block64) (K : Key128) : Block64 :=
  transform B (generateDecryptionSubkeys (generateEncryptionSubkeys K))

/-- The data writes of one core step of phase `RND` with `CNT = r` (R158): a full round for `r <= 7`, the output transformation for
`r = 8`; the four words are replaced together. -/
def State.rndData (s : State) : State :=
  { s with x :=
      if s.cnt.toNat ≤ 7 then fullRound (selectedSubkeys s) s.cnt.toNat s.x else outT (selectedSubkeys s) s.x }

/-- `XFORM.E` (R159): needs `KV`, then the block; starts phase `RND`. -/
def execXformE (s : State) : Host.Outcome State Fault Refusal := issue .xformE (firstOf needEk needBlock) State.startRnd s

/-- `XFORM.D` (R160): needs `DV`, then the block; starts phase `RND`. -/
def execXformD (s : State) : Host.Outcome State Fault Refusal := issue .xformD (firstOf needDk needBlock) State.startRnd s

/-- `ENCRYPT` (R161): needs the key, then the block; starts phase `KSE`. -/
def execEncrypt (s : State) : Host.Outcome State Fault Refusal := issue .encrypt (firstOf needKey needBlock) State.startKse s

/-- `DECRYPT` (R162): needs the key, then the block; starts phase `KSE`. -/
def execDecrypt (s : State) : Host.Outcome State Fault Refusal := issue .decrypt (firstOf needKey needBlock) State.startKse s

end Sys2Proof.Machine
end

