-- ==== Sys2Proof/Machine/Dispatch.lean ====
section
/-! DEFINITION. One arm per command: what the write of its word to CMD does (43_control.md R181). -/

namespace Sys2Proof.Machine

def exec (i : Instr) (s : State) : Host.Outcome State Fault Refusal :=
  match i with
  | .nop => Sys2Proof.Machine.execNop s
  | .xor => Sys2Proof.Machine.execXor s
  | .add => Sys2Proof.Machine.execAdd s
  | .addinv => Sys2Proof.Machine.execAddinv s
  | .mul => Sys2Proof.Machine.execMul s
  | .mulinv => Sys2Proof.Machine.execMulinv s
  | .ekgen => Sys2Proof.Machine.execEkgen s
  | .dkgen => Sys2Proof.Machine.execDkgen s
  | .xformE => Sys2Proof.Machine.execXformE s
  | .xformD => Sys2Proof.Machine.execXformD s
  | .encrypt => Sys2Proof.Machine.execEncrypt s
  | .decrypt => Sys2Proof.Machine.execDecrypt s

end Sys2Proof.Machine
end

