-- ==== Sys2Proof/Machine/Bus.lean ====
section
/-! DEFINITION. The host's accesses to the register space (20_memory.md R52 to R60, R71). -/

namespace Sys2Proof.Machine

/-- The content of a mapped register (20_memory.md R51, R60); CMD reads 0x0000 (R57). -/
def readReg (s : State) : Reg → Word
  | .key j => s.key[j]
  | .x j => blockWord s.x j
  | .opa => s.opa
  | .opb => s.opb
  | .res => s.res
  | .cmd => 0#16
  | .status => statusWord s
  | .seq => seqWord s
  | .masks => masksWord s
  | .kr j => seg s.kr j
  | .ek i => s.ek[i]
  | .dk i => s.dk[i]

/-- The value `HostRead(a)` returns (R52): 0x0000 for an unmapped address. -/
def readValue (s : State) (a : Addr) : Word :=
  match regOfAddr a with
  | some r => readReg s r
  | none => 0#16

/-- The state `HostRead(a)` leaves (R52): a mapped read changes nothing, an unmapped read raises `E_ADDR`. -/
def readState (s : State) (a : Addr) : State :=
  match regOfAddr a with
  | some _ => s
  | none => s.raise .addr

/-- A word written to CMD while idle (20_memory.md R57, 43_control.md R181): the command it encodes, or, for an illegal word,
`DONE <- 0` and `E_ILLCMD`. -/
def acceptWord (s : State) (w : Word) : Host.Outcome State Fault Refusal :=
  match decode w with
  | .ok i => exec i s
  | .illegal _ => .next (s.clearDone.raise .illcmd)

/-- Step 4 of R53, the write of a writable register while idle (R54 to R57); a register with no row there is refused by step 2. -/
def writeReg (s : State) (r : Reg) (v : Word) : Host.Outcome State Fault Refusal :=
  match r with
  | .key j => .next (s.writeKey j v)
  | .x j => .next (s.writeX j v)
  | .opa => .next (s.writeOpa v)
  | .opb => .next (s.writeOpb v)
  | .cmd => acceptWord s v
  | .status => .next (s.acknowledge v)
  | .res | .seq | .masks | .kr _ | .ek _ | .dk _ => .next (s.raise .addr)

/-- `HostWrite(a, v)` (R53), the checks in its order: STATUS, then address, then busy, then the register. -/
def hostWrite (s : State) (a : Addr) (v : Word) : Host.Outcome State Fault Refusal :=
  if a = addrOfReg .status then .next (s.acknowledge v)
  else
    match regOfAddr a with
    | none => .next (s.raise .addr)
    | some r =>
      if regReadOnly r then .next (s.raise .addr)
      else if s.busy then .next (s.raise .busy)
      else writeReg s r v

end Sys2Proof.Machine
end

