-- ==== Sys2Proof/Machine/Sequencer.lean ====
section
/-! DEFINITION. The core step (43_control.md R182): chosen by `PH` alone, with the end-of-phase action in the same transition as the
phase's last step. A state R182 has no row for stops by name (log 4). -/

namespace Sys2Proof.Machine

/-- End of phase `KSE` (R182): EKGEN completes, ENCRYPT starts `RND`, DECRYPT starts `KSD`. -/
def endKse (s : State) : Host.Outcome State Fault Refusal :=
  if s.cur = Instr.opcode .ekgen then .next s.complete
  else if s.cur = Instr.opcode .encrypt then .next s.startRnd
  else if s.cur = Instr.opcode .decrypt then .next s.startKsd
  else .fault .noSequencerRow

/-- End of phase `KSD` (R182): DKGEN completes, DECRYPT starts `RND`. -/
def endKsd (s : State) : Host.Outcome State Fault Refusal :=
  if s.cur = Instr.opcode .dkgen then .next s.complete
  else if s.cur = Instr.opcode .decrypt then .next s.startRnd
  else .fault .noSequencerRow

/-- Core step in phase `KSE` (41_key_scheduler.md R137), `CNT` 0..6. -/
def kseStep (s : State) : Host.Outcome State Fault Refusal :=
  if s.cnt.toNat < 6 then .next s.kseData.count
  else if s.cnt.toNat = 6 then endKse s.kseData.setKv
  else .fault .noSequencerRow

/-- Core step in phase `KSD` (41_key_scheduler.md R140), `CNT` 0..8. -/
def ksdStep (s : State) : Host.Outcome State Fault Refusal :=
  if s.cnt.toNat < 8 then .next s.ksdData.count
  else if s.cnt.toNat = 8 then endKsd s.ksdData.setDv
  else .fault .noSequencerRow

/-- Core step in phase `RND` (42_round_engine.md R158), `CNT` 0..8; every command completes at its end (R182). -/
def rndStep (s : State) : Host.Outcome State Fault Refusal :=
  if s.cnt.toNat < 8 then .next s.rndData.count
  else if s.cnt.toNat = 8 then .next s.rndData.complete
  else .fault .noSequencerRow

/-- A core step (R182). "When `PH = IDLE` it has none": the machine's step never asks for one then. -/
def coreStep (s : State) : Host.Outcome State Fault Refusal :=
  match s.ph with
  | .idle => .fault .noSequencerRow
  | .kse => kseStep s
  | .ksd => ksdStep s
  | .rnd => rndStep s

/-- `n` core steps with no host action between them. -/
def coreSteps : Nat → State → Host.Outcome State Fault Refusal
  | 0, s => .next s
  | n + 1, s =>
    match coreStep s with
    | .next t => coreSteps n t
    | .fault f => .fault f
    | .refused r => .refused r

end Sys2Proof.Machine
end

