-- ==== Sys2Proof/Machine/Agents.lean ====
section
/-! DEFINITION. The two agents and their interleaving (00_scope.md R6, 20_memory.md R67, 30_encoding.md R86): which one moves, and
what the host's move is. -/

namespace Sys2Proof.Machine

/-- Both agents can move: the core has a step (43_control.md R182) and the host has a line. -/
def State.contended (s : State) : Bool := s.busy && !s.host.isEmpty

/-- Which agent moves. The core has a step only while busy (43_control.md R182); the host has a move only while a line is pending.
Where both can move, the head of `turns` says which, and the core when the list has run out, so that a step that stays enabled
is taken in the end (70_reset_and_hazards.md R226; log 2). -/
def mover (s : State) : Option Agent :=
  if s.busy then
    if s.host.isEmpty then some .core else some (s.turns.headD .core)
  else
    if s.host.isEmpty then none else some .host

/-- A turn of the list is used up only where it decided something (log 2). -/
def State.takeTurn (s : State) : State := if s.contended then { s with turns := s.turns.tail } else s

/-- One host line (30_encoding.md R86), already taken off the pending list. `WAIT` reads STATUS and stays pending while bit 0
(`BUSY`) reads 1; its reads are not logged (log 3, 14). -/
def performLine (l : HostLine) (s : State) : Host.Outcome State Fault Refusal :=
  match l with
  | .rst => .next s.resetCore
  | .wr a v => hostWrite s a v
  | .rd a => .next { readState s a with log := s.log ++ [(a, readValue s a)] }
  | .wait =>
    if (readValue s (addrOfReg .status)).getLsbD 0 then
      .next { readState s (addrOfReg .status) with host := .wait :: s.host }
    else .next (readState s (addrOfReg .status))

/-- The host's move: its next line (30_encoding.md R86, "executed in order by the host agent"). -/
def hostMove (s : State) : Host.Outcome State Fault Refusal :=
  match s.host with
  | [] => .next s
  | l :: rest => performLine l { s with host := rest }

/-- One transition of the whole machine (00_scope.md R7). With neither agent able to move the core is quiescent (43_control.md
R184) and the state stays as it is (log 7). -/
def transition (s : State) : Host.Outcome State Fault Refusal :=
  match mover s with
  | none => .next s
  | some .host => hostMove s.takeTurn
  | some .core => coreStep s.takeTurn

end Sys2Proof.Machine
end

