-- ==== Sys2Proof/Machine/Step.lean ====
section
/-! DEFINITION. One step of the machine, and how a command word is placed so that the next step runs it. -/

namespace Sys2Proof.Machine

/-- One transition: a host access, a core step, or nothing when the core is quiescent (00_scope.md R7, 43_control.md R182, R184). -/
def step (s : State) : Host.Outcome State Fault Refusal := transition s

/-- A command runs when the host writes its word to CMD (20_memory.md R57, R69): the write becomes the host's next line, and, where
the core could move first, the next turn is the host's (log 1). -/
def State.withFetchWord (s : State) (nbits w : Nat) : State :=
  { s with
    host := .wr (addrOfReg .cmd) (BitVec.ofNat 16 (w % 2 ^ nbits)) :: s.host
    turns := if s.busy then .host :: s.turns else s.turns }

end Sys2Proof.Machine
end

