-- ==== Sys2Proof/Machine/HostNotation.lean ====
section
/-! DEFINITION. The host notation (30_encoding.md R86, R87): `CMD` and the pseudo-lines as lists of host lines. -/

namespace Sys2Proof.Machine

/-- `WR name, value`. -/
def wrLine (r : Reg) (v : Word) : HostLine := .wr (addrOfReg r) v

/-- `RD name`. -/
def rdLine (r : Reg) : HostLine := .rd (addrOfReg r)

/-- `CMD mnemonic`: `HostWrite(0x10, word(mnemonic))`. -/
def cmdLine (i : Instr) : HostLine := .wr (addrOfReg .cmd) (encode i)

/-- `LDKEY h`: the eight words of the key, most significant first. -/
def ldkey (K : Key128) : List HostLine := (List.finRange 8).map fun j => wrLine (.key j) (seg K j)

/-- `LDBLK h`: the four words of the block, most significant first. -/
def ldblk (B : Block64) : List HostLine := (List.finRange 4).map fun j => wrLine (.x j) (blockWord (blockOfBits B) j)

/-- `RDBLK`. -/
def rdblk : List HostLine := (List.finRange 4).map fun j => rdLine (.x j)

/-- `CLRERR`: `WR STATUS, 3F00`. -/
def clrerr : HostLine := wrLine .status 0x3F00#16

/-- `RUN mnemonic`: `CMD mnemonic`; `WAIT`. -/
def runLines (i : Instr) : List HostLine := [cmdLine i, .wait]

end Sys2Proof.Machine
end

