-- ==== Sys2Proof/Safety.lean ====
section
/-! DEFINITION. What a sound state is, in the terms the statements use: the sequencer is in a row of 43_control.md R182, and the
valid flags, the stores and `KR` mean what 10_state.md R30, R31 and 60_exceptions.md R206 say they mean. -/

namespace Sys2Proof.Machine

/-- The combination of `PH`, `CNT` and `CUR` has a row in 43_control.md R182, and in `IDLE` `CNT` is 0 and `CUR` names a command
(10_state.md R35). -/
def sequencerRow (s : State) : Bool :=
  match s.ph with
  | .idle => s.cnt == 0#4 && s.cur < 0xC#4
  | .kse => s.cnt ≤ 6#4 && (s.cur == 0x6#4 || s.cur == 0xA#4 || s.cur == 0xB#4)
  | .ksd => s.cnt ≤ 8#4 && (s.cur == 0x7#4 || s.cur == 0xB#4)
  | .rnd => s.cnt ≤ 8#4 && (s.cur == 0x8#4 || s.cur == 0x9#4 || s.cur == 0xA#4 || s.cur == 0xB#4)

/-- The invariant of the machine: every state reached from reset by any interleaving of host accesses, resets and core steps has
it. -/
structure Sound (s : State) : Prop where
  /-- 43_control.md R182: the sequencer is in a row of its table. -/
  row : sequencerRow s = true
  /-- 10_state.md R32, 43_control.md R181: `DONE` is never 1 while a command is in progress. -/
  done_idle : s.done = true → s.ph = .idle
  /-- 10_state.md R31: `DV = 1` implies `KV = 1`. -/
  dv_kv : s.dv = true → s.kv = true
  /-- 43_control.md R181: a schedule is made only from a whole key. -/
  kv_kw : s.kv = true → s.kw = 0xFF#8
  /-- 10_state.md R30: whenever `KV = 1`, `EK` is the schedule of the current `KEY`. -/
  kv_ek : s.kv = true → s.ek = generateEncryptionSubkeys (keyBits s.key)
  /-- 10_state.md R31: whenever `DV = 1`, `DK` is the decryption schedule of the current `EK`. -/
  dv_dk : s.dv = true → s.dk = generateDecryptionSubkeys s.ek
  /-- 41_key_scheduler.md R136, R143: in phase `KSE` the key is whole and both valid flags are down. -/
  kse_flags : s.ph = .kse → s.kw = 0xFF#8 ∧ s.kv = false ∧ s.dv = false
  /-- 60_exceptions.md R206: in phase `KSE` with `CNT = n`, `KR = rotl128(K, 25n mod 128)`. -/
  kse_kr : s.ph = .kse → s.kr = rotl128 (keyBits s.key) (25 * s.cnt.toNat % 128)
  /-- 60_exceptions.md R206: in phase `KSE` with `CNT = n`, `EK[0..8n-1]` hold their final values. -/
  kse_ek : s.ph = .kse → ∀ i : Fin 52, i.val < 8 * s.cnt.toNat →
    s.ek[i] = (generateEncryptionSubkeys (keyBits s.key))[i]
  /-- 41_key_scheduler.md R139: in phase `KSD`, `KV = 1` and `DV = 0`. -/
  ksd_flags : s.ph = .ksd → s.kv = true ∧ s.dv = false
  /-- 60_exceptions.md R206: in phase `KSD` with `CNT = i`, `DK[0..6i-1]` hold their final values. -/
  ksd_dk : s.ph = .ksd → ∀ k : Fin 52, k.val < 6 * s.cnt.toNat →
    s.dk[k] = (generateDecryptionSubkeys s.ek)[k]
  /-- 42_round_engine.md R157: in phase `RND` the store the mode selects is valid. -/
  rnd_valid : s.ph = .rnd → if s.cur.getLsbD 0 then s.dv = true else s.kv = true
  /-- 42_round_engine.md R157: a round engine command runs on a whole block. -/
  block_whole : s.ph ≠ .idle → s.cur.getLsbD 3 = true → s.xw = 0xF#4

/-- What a command in progress works on: the state without `ERR` and without the host agent's own fields. -/
def State.quiet (s : State) : State := { s with err := 0, host := [], turns := [], log := [] }

/-- A host program with no `RST` line. -/
def noReset (lines : List HostLine) : Bool := lines.all fun l => l != .rst

end Sys2Proof.Machine
end

