-- ==== Sys2Proof/Certificates/Slice0/Obligations.lean ====
section
/-! DEFINITION. The statements for the provers, and the transcriptions of rules they compare the machine with. -/

open Sys2Proof Sys2Proof.Machine

/-! ### Transcriptions of 43_control.md R181 and 20_memory.md R53, line by line, in plain numbers -/

/-- `raise` of the cause with code `c` (60_exceptions.md R190): `ERR[c-1] <- 1`. -/
def Sys2Proof.Machine.raiseByRule (s : State) (c : Nat) : State :=
  { s with err := s.err ||| BitVec.ofNat 6 (2 ^ (c - 1)) }

/-- The pseudocode `Accept(w)` of 43_control.md R181, on numbers. -/
def Sys2Proof.Machine.acceptByRule (s : State) (w : Word) : State :=
  let s0 := { s with done := false }
  let op := w.toNat % 16
  if w.toNat / 16 ≠ 0 ∨ op ≥ 0xC then raiseByRule s0 4
  else if (op = 6 ∨ op = 0xA ∨ op = 0xB) ∧ s.kw ≠ 0xFF#8 then raiseByRule s0 2
  else if op = 7 ∧ s.kv = false then raiseByRule s0 3
  else if op = 8 ∧ s.kv = false then raiseByRule s0 3
  else if op = 9 ∧ s.dv = false then raiseByRule s0 3
  else if (op = 8 ∨ op = 9 ∨ op = 0xA ∨ op = 0xB) ∧ s.xw ≠ 0xF#4 then raiseByRule s0 1
  else
    let s1 := { s0 with cur := BitVec.ofNat 4 op }
    let completed := { s1 with ph := .idle, cnt := 0#4, done := true }
    if op = 0 then completed
    else if op = 1 then { completed with res := xor16 s.opa s.opb }
    else if op = 2 then { completed with res := modAdd s.opa s.opb }
    else if op = 3 then { completed with res := modAddInverse s.opa }
    else if op = 4 then { completed with res := modMul s.opa s.opb }
    else if op = 5 then { completed with res := modMulInverse s.opa }
    else if op = 7 then { s1 with dv := false, ph := .ksd, cnt := 0#4 }
    else if op = 8 ∨ op = 9 then { s1 with ph := .rnd, cnt := 0#4 }
    else { s1 with kr := keyBits s.key, kv := false, dv := false, ph := .kse, cnt := 0#4 }

/-- The addresses 20_memory.md R51 gives to no register. -/
abbrev Sys2Proof.Machine.unmappedByRule (n : Nat) : Prop :=
  n = 0x0F ∨ (0x14 ≤ n ∧ n ≤ 0x17) ∨ (0x20 ≤ n ∧ n ≤ 0x3F) ∨ (0x74 ≤ n ∧ n ≤ 0x7F) ∨ (0xB4 ≤ n ∧ n ≤ 0xFF)

/-- The addresses 20_memory.md R51 marks `RO`. -/
abbrev Sys2Proof.Machine.readOnlyByRule (n : Nat) : Prop :=
  n = 0x0E ∨ n = 0x12 ∨ n = 0x13 ∨ (0x18 ≤ n ∧ n ≤ 0x1F) ∨ (0x40 ≤ n ∧ n ≤ 0x73) ∨ (0x80 ≤ n ∧ n ≤ 0xB3)

/-- The key of the examples of the command rules. -/
abbrev Sys2Proof.Machine.exampleKey : Key128 := 0x00010002000300040005000600070008#128

/-! ### The commands -/

/-- 43_control.md R180, whole: the encoding, the effect, the error while busy, and the rule's example. -/
def Obligations.NopSetsCurAndCompletes : Prop :=
  encode .nop = 0x0000#16 ∧ (∀ i : Instr, encode i = 0x0000#16 → i = .nop) ∧
  (∀ s : State, s.ph = .idle →
    exec .nop s = .next { s with cur := 0x0#4, ph := .idle, cnt := 0#4, done := true }) ∧
  (∀ s : State, s.ph ≠ .idle → exec .nop s = .next { s with err := s.err ||| 0x10#6 }) ∧
  (∃ t, exec .nop State.reset = .next t ∧ readValue t 0x11#8 = 0x0002#16 ∧ readValue t 0x12#8 = 0x0000#16)

/-- 40_primitives.md R108: what the five primitive commands have in common. The result is a function of `OPA` and `OPB` alone;
everything but `RES`, `CUR`, `DONE` (and `CNT`, which `complete` sets to its idle value 0) keeps its value; the only error is
`E_BUSY`. -/
def Obligations.PrimitiveCommandsShareOneBehaviour : Prop :=
  ∀ i ∈ [Instr.xor, .add, .addinv, .mul, .mulinv],
    (∃ f : Word → Word → Word, ∀ s : State, s.ph = .idle →
      exec i s = .next { s with res := f s.opa s.opb, cur := i.opcode, cnt := 0#4, done := true }) ∧
    (∀ s : State, s.ph ≠ .idle → exec i s = .next { s with err := s.err ||| 0x10#6 })

/-- 40_primitives.md R110: `XOR`. -/
def Obligations.XorCommandResult : Prop :=
  encode .xor = 0x0001#16 ∧
  (∀ s : State, s.ph = .idle →
    exec .xor s = .next { s with res := xor16 s.opa s.opb, cur := 0x1#4, cnt := 0#4, done := true }) ∧
  (∀ a : Word, xor16 a a = 0#16 ∧ xor16 a 0#16 = a ∧ xor16 0#16 a = a) ∧
  xor16 0xFFFF#16 0x00FF#16 = 0xFF00#16

/-- 40_primitives.md R111: `ADD`. -/
def Obligations.AddCommandResult : Prop :=
  encode .add = 0x0002#16 ∧
  (∀ s : State, s.ph = .idle →
    exec .add s = .next { s with res := modAdd s.opa s.opb, cur := 0x2#4, cnt := 0#4, done := true }) ∧
  modAdd 0xFFFF#16 0x0001#16 = 0x0000#16 ∧ modAdd 0xFFFF#16 0xFFFF#16 = 0xFFFE#16 ∧
  modAdd 0x8000#16 0x8000#16 = 0x0000#16 ∧ modAdd 0x1234#16 0x5678#16 = 0x68AC#16

/-- 40_primitives.md R112: `ADDINV`. -/
def Obligations.AddinvCommandResult : Prop :=
  encode .addinv = 0x0003#16 ∧
  (∀ s : State, s.ph = .idle →
    exec .addinv s = .next { s with res := modAddInverse s.opa, cur := 0x3#4, cnt := 0#4, done := true }) ∧
  modAddInverse 0x0000#16 = 0x0000#16 ∧ modAddInverse 0x8000#16 = 0x8000#16 ∧
  modAddInverse 0x0001#16 = 0xFFFF#16 ∧ modAddInverse 0xFFFF#16 = 0x0001#16 ∧
  modAddInverse 0x1234#16 = 0xEDCC#16

/-- 40_primitives.md R113: `MUL`. -/
def Obligations.MulCommandResult : Prop :=
  encode .mul = 0x0004#16 ∧
  (∀ s : State, s.ph = .idle →
    exec .mul s = .next { s with res := modMul s.opa s.opb, cur := 0x4#4, cnt := 0#4, done := true }) ∧
  modMul 0x0000#16 0x0000#16 = 0x0001#16 ∧ modMul 0x0000#16 0x0001#16 = 0x0000#16 ∧
  modMul 0x0000#16 0x0002#16 = 0xFFFF#16 ∧ modMul 0x0000#16 0xFFFF#16 = 0x0002#16 ∧
  modMul 0x0002#16 0x8000#16 = 0x0000#16 ∧ modMul 0x0100#16 0x0100#16 = 0x0000#16 ∧
  modMul 0xFFFF#16 0xFFFF#16 = 0x0004#16 ∧ modMul 0x8000#16 0x8000#16 = 0xC001#16 ∧
  modMul 0x1234#16 0x5678#16 = 0xFA3B#16

/-- 40_primitives.md R114: `MULINV`. -/
def Obligations.MulinvCommandResult : Prop :=
  encode .mulinv = 0x0005#16 ∧
  (∀ s : State, s.ph = .idle →
    exec .mulinv s = .next { s with res := modMulInverse s.opa, cur := 0x5#4, cnt := 0#4, done := true }) ∧
  modMulInverse 0x0000#16 = 0x0000#16 ∧ modMulInverse 0x0001#16 = 0x0001#16 ∧
  modMulInverse 0x0002#16 = 0x8001#16 ∧ modMulInverse 0x8001#16 = 0x0002#16 ∧
  modMulInverse 0xFFFF#16 = 0x8000#16 ∧ modMulInverse 0x8000#16 = 0xFFFF#16 ∧
  modMulInverse 0x0003#16 = 0x5556#16

/-- 41_key_scheduler.md R143: `EKGEN`, its refusals, its acceptance, what its seven core steps leave, the all-zero key and the rule's
example. What the whole phase leaves is marked derived in R145. -/
def Obligations.EkgenBuildsTheEncryptionSchedule : Prop :=
  encode .ekgen = 0x0006#16 ∧
  (∀ s : State, s.ph ≠ .idle → exec .ekgen s = .next { s with err := s.err ||| 0x10#6 }) ∧
  (∀ s : State, s.ph = .idle → s.kw ≠ 0xFF#8 →
    exec .ekgen s = .next { s with done := false, err := s.err ||| 0x02#6 }) ∧
  (∀ s : State, s.ph = .idle → s.kw = 0xFF#8 →
    ∃ t, exec .ekgen s = .next t ∧
      t = { s with done := false, cur := 0x6#4, kr := keyBits s.key, kv := false, dv := false, ph := .kse, cnt := 0#4 } ∧
      coreSteps 7 t = .next { s with
        done := true, cur := 0x6#4, kr := rotl128 (keyBits s.key) 47
        ek := generateEncryptionSubkeys (keyBits s.key), kv := true, dv := false, ph := .idle, cnt := 0#4 }) ∧
  generateEncryptionSubkeys 0#128 = Vector.replicate 52 0#16 ∧
  subkey (generateEncryptionSubkeys exampleKey) 8 = 0x0400#16 ∧
  subkey (generateEncryptionSubkeys exampleKey) 51 = 0x0140#16 ∧
  rotl128 exampleKey 47 = 0x80020002800300038004000080010001#128

/-- 41_key_scheduler.md R144: `DKGEN`, with the zero subkeys and the rule's example. What the whole phase leaves is marked
derived in R145. -/
def Obligations.DkgenBuildsTheDecryptionSchedule : Prop :=
  encode .dkgen = 0x0007#16 ∧
  (∀ s : State, s.ph ≠ .idle → exec .dkgen s = .next { s with err := s.err ||| 0x10#6 }) ∧
  (∀ s : State, s.ph = .idle → s.kv = false →
    exec .dkgen s = .next { s with done := false, err := s.err ||| 0x04#6 }) ∧
  (∀ s : State, s.ph = .idle → s.kv = true →
    ∃ t, exec .dkgen s = .next t ∧
      t = { s with done := false, cur := 0x7#4, dv := false, ph := .ksd, cnt := 0#4 } ∧
      coreSteps 9 t = .next { s with
        done := true, cur := 0x7#4, dk := generateDecryptionSubkeys s.ek, dv := true, ph := .idle, cnt := 0#4 }) ∧
  modMulInverse 0#16 = 0#16 ∧ modAddInverse 0#16 = 0#16 ∧
  subkey (generateDecryptionSubkeys (generateEncryptionSubkeys exampleKey)) 0 = 0xFE01#16 ∧
  subkey (generateDecryptionSubkeys (generateEncryptionSubkeys exampleKey)) 1 = 0xFF40#16 ∧
  subkey (generateDecryptionSubkeys (generateEncryptionSubkeys exampleKey)) 51 = 0xC001#16

/-- 42_round_engine.md R159: `XFORM.E`, with the rule's example. What the whole phase leaves is marked derived in R163. -/
def Obligations.XformETransformsWithEk : Prop :=
  encode .xformE = 0x0008#16 ∧
  (∀ s : State, s.ph ≠ .idle → exec .xformE s = .next { s with err := s.err ||| 0x10#6 }) ∧
  (∀ s : State, s.ph = .idle → s.kv = false →
    exec .xformE s = .next { s with done := false, err := s.err ||| 0x04#6 }) ∧
  (∀ s : State, s.ph = .idle → s.kv = true → s.xw ≠ 0xF#4 →
    exec .xformE s = .next { s with done := false, err := s.err ||| 0x01#6 }) ∧
  (∀ s : State, s.ph = .idle → s.kv = true → s.xw = 0xF#4 →
    ∃ t, exec .xformE s = .next t ∧
      t = { s with done := false, cur := 0x8#4, ph := .rnd, cnt := 0#4 } ∧
      coreSteps 9 t = .next { s with
        done := true, cur := 0x8#4, x := blockOfBits (transform (blockBits s.x) s.ek), ph := .idle, cnt := 0#4 }) ∧
  transform 0x0000000100020003#64 (generateEncryptionSubkeys exampleKey) = 0x11FBED2B01986DE5#64

/-- 42_round_engine.md R160: `XFORM.D`, with the rule's example. What the whole phase leaves is marked derived in R163. -/
def Obligations.XformDTransformsWithDk : Prop :=
  encode .xformD = 0x0009#16 ∧
  (∀ s : State, s.ph ≠ .idle → exec .xformD s = .next { s with err := s.err ||| 0x10#6 }) ∧
  (∀ s : State, s.ph = .idle → s.dv = false →
    exec .xformD s = .next { s with done := false, err := s.err ||| 0x04#6 }) ∧
  (∀ s : State, s.ph = .idle → s.dv = true → s.xw ≠ 0xF#4 →
    exec .xformD s = .next { s with done := false, err := s.err ||| 0x01#6 }) ∧
  (∀ s : State, s.ph = .idle → s.dv = true → s.xw = 0xF#4 →
    ∃ t, exec .xformD s = .next t ∧
      t = { s with done := false, cur := 0x9#4, ph := .rnd, cnt := 0#4 } ∧
      coreSteps 9 t = .next { s with
        done := true, cur := 0x9#4, x := blockOfBits (transform (blockBits s.x) s.dk), ph := .idle, cnt := 0#4 }) ∧
  transform 0x11FBED2B01986DE5#64 (generateDecryptionSubkeys (generateEncryptionSubkeys exampleKey)) =
    0x0000000100020003#64

/-- 42_round_engine.md R161: `ENCRYPT`, 16 core steps, the end state (which the rule marks as derived) and the rule's example. -/
def Obligations.EncryptRunsScheduleThenRounds : Prop :=
  encode .encrypt = 0x000A#16 ∧
  (∀ s : State, s.ph ≠ .idle → exec .encrypt s = .next { s with err := s.err ||| 0x10#6 }) ∧
  (∀ s : State, s.ph = .idle → s.kw ≠ 0xFF#8 →
    exec .encrypt s = .next { s with done := false, err := s.err ||| 0x02#6 }) ∧
  (∀ s : State, s.ph = .idle → s.kw = 0xFF#8 → s.xw ≠ 0xF#4 →
    exec .encrypt s = .next { s with done := false, err := s.err ||| 0x01#6 }) ∧
  (∀ s : State, s.ph = .idle → s.kw = 0xFF#8 → s.xw = 0xF#4 →
    ∃ t u, exec .encrypt s = .next t ∧
      t = { s with done := false, cur := 0xA#4, kr := keyBits s.key, kv := false, dv := false, ph := .kse, cnt := 0#4 } ∧
      coreSteps 7 t = .next u ∧ u.ph = .rnd ∧ u.cnt = 0#4 ∧ u.kv = true ∧ u.x = s.x ∧
      coreSteps 16 t = .next { s with
        done := true, cur := 0xA#4, kr := rotl128 (keyBits s.key) 47
        ek := generateEncryptionSubkeys (keyBits s.key), kv := true, dv := false
        x := blockOfBits (encrypt (blockBits s.x) (keyBits s.key)), ph := .idle, cnt := 0#4 }) ∧
  encrypt 0x0000000100020003#64 exampleKey = 0x11FBED2B01986DE5#64

/-- 42_round_engine.md R162: `DECRYPT`, 25 core steps, the end state (which the rule marks as derived) and the rule's example. -/
def Obligations.DecryptRunsBothSchedulesThenRounds : Prop :=
  encode .decrypt = 0x000B#16 ∧
  (∀ s : State, s.ph ≠ .idle → exec .decrypt s = .next { s with err := s.err ||| 0x10#6 }) ∧
  (∀ s : State, s.ph = .idle → s.kw ≠ 0xFF#8 →
    exec .decrypt s = .next { s with done := false, err := s.err ||| 0x02#6 }) ∧
  (∀ s : State, s.ph = .idle → s.kw = 0xFF#8 → s.xw ≠ 0xF#4 →
    exec .decrypt s = .next { s with done := false, err := s.err ||| 0x01#6 }) ∧
  (∀ s : State, s.ph = .idle → s.kw = 0xFF#8 → s.xw = 0xF#4 →
    ∃ t u v, exec .decrypt s = .next t ∧
      t = { s with done := false, cur := 0xB#4, kr := keyBits s.key, kv := false, dv := false, ph := .kse, cnt := 0#4 } ∧
      coreSteps 7 t = .next u ∧ u.ph = .ksd ∧ u.cnt = 0#4 ∧ u.kv = true ∧ u.dv = false ∧
      coreSteps 16 t = .next v ∧ v.ph = .rnd ∧ v.cnt = 0#4 ∧ v.dv = true ∧ v.x = s.x ∧
      coreSteps 25 t = .next { s with
        done := true, cur := 0xB#4, kr := rotl128 (keyBits s.key) 47
        ek := generateEncryptionSubkeys (keyBits s.key)
        dk := generateDecryptionSubkeys (generateEncryptionSubkeys (keyBits s.key)), kv := true, dv := true
        x := blockOfBits (decrypt (blockBits s.x) (keyBits s.key)), ph := .idle, cnt := 0#4 }) ∧
  decrypt 0x11FBED2B01986DE5#64 exampleKey = 0x0000000100020003#64

/-! ### The pure functions -/

/-- 40_primitives.md R100, R101: `xor` on bit strings fails exactly on unequal lengths, and is bitwise; `xor16` is it at length
16. -/
def Obligations.XorOnBitStringsAndWords : Prop :=
  (∀ a b : List Bool, xorBits a b = none ↔ a.length ≠ b.length) ∧
  (∀ a b c : List Bool, xorBits a b = some c →
    c.length = a.length ∧ ∀ i, i < a.length → c.getD i false = ((a.getD i false) ^^ (b.getD i false))) ∧
  (∀ a b : Word, xorBits (bitsOfWord a) (bitsOfWord b) = some (bitsOfWord (xor16 a b))) ∧
  (∀ (a b : Word) (i : Nat), i < 16 → (xor16 a b).getLsbD i = ((a.getLsbD i) ^^ (b.getLsbD i)))

/-- 40_primitives.md R102, R103: the additive primitives modulo 2^16, with the values the rules name. -/
def Obligations.AdditivePrimitivesByRule : Prop :=
  (∀ a b : Word, (modAdd a b).toNat = (a.toNat + b.toNat) % 65536) ∧
  (∀ a b : Word, modAdd a b = BitVec.ofInt 16 (a.toInt + b.toInt)) ∧
  (∀ a : Word, (modAddInverse a).toNat = if a.toNat = 0 then 0 else 65536 - a.toNat) ∧
  (∀ a : Word, modAddInverse a = ~~~a + 1#16) ∧
  (∀ a : Word, modAddInverse (modAddInverse a) = a) ∧
  modAddInverse 0x8000#16 = 0x8000#16

/-- 40_primitives.md R104: `modMul` computed as the rule's pseudocode says, and `p` in 1..65536. -/
def Obligations.ModMulByRule : Prop :=
  ∀ a b : Word,
    let a' := if a = 0#16 then 65536 else a.toNat
    let b' := if b = 0#16 then 65536 else b.toNat
    let p := a' * b' % 65537
    1 ≤ p ∧ p ≤ 65536 ∧ modMul a b = if p = 65536 then 0#16 else BitVec.ofNat 16 p

/-- 40_primitives.md R105: `modMulInverse(a)` is the word for the unique `r` in 1..65536 with `a' * r mod 65537 = 1`; its value on 0 is
the rule's, its value on 1 is marked derived there. -/
def Obligations.ModMulInverseIsTheUniqueInverse : Prop :=
  (∀ a : Word,
    let a' := if a = 0#16 then 65536 else a.toNat
    ∃ r : Nat, 1 ≤ r ∧ r ≤ 65536 ∧ a' * r % 65537 = 1 ∧
      (∀ q : Nat, 1 ≤ q → q ≤ 65536 → a' * q % 65537 = 1 → q = r) ∧
      modMulInverse a = if r = 65536 then 0#16 else BitVec.ofNat 16 r) ∧
  modMulInverse 0#16 = 0#16 ∧ modMulInverse 1#16 = 1#16

/-- 40_primitives.md R106: the group identities, for every word (the second also for the zero pattern). -/
def Obligations.GroupIdentities : Prop :=
  (∀ x : Word, modAdd x (modAddInverse x) = 0#16) ∧ (∀ x : Word, modMul x (modMulInverse x) = 1#16)

/-- The consequences 40_primitives.md R104 and R105 mark as derived: the words under `modMul` are a commutative group with identity
1, and the zero pattern is -1 in it. -/
def Obligations.MultiplicativeGroupLaws : Prop :=
  (∀ a : Word, modMul a 1#16 = a) ∧
  (∀ a : Word, a ≠ 0#16 → (modMul a 0#16).toNat = (65537 - a.toNat) % 65536) ∧
  modMul 0#16 0#16 = 1#16 ∧
  (∀ a b : Word, modMul a b = modMul b a) ∧
  (∀ a b c : Word, modMul (modMul a b) c = modMul a (modMul b c)) ∧
  (∀ a r : Word, modMul a r = 1#16 ↔ r = modMulInverse a) ∧
  (∀ a : Word, modMulInverse (modMulInverse a) = a)

/-- 40_primitives.md R105 and R107 (93_implementation_defined.md G1, G2): the two illustrated methods, the extended Euclidean
algorithm and the low-high multiplier, return the values the rules fix. -/
def Obligations.IllustratedMethodsAgree : Prop :=
  (∀ a : Word, modMulInverseEuclid a = modMulInverse a) ∧ (∀ a b : Word, modMulLowHigh a b = modMul a b)

/-- 41_key_scheduler.md R130: the 128-bit left rotation, by formula and bit by bit. -/
def Obligations.RotationByRule : Prop :=
  (∀ (K : Key128) (n : Nat), n < 128 →
    (rotl128 K n).toNat = K.toNat * 2 ^ n % 2 ^ 128 + K.toNat / 2 ^ (128 - n)) ∧
  (∀ K : Key128, rotl128 K 0 = K) ∧
  (∀ (K : Key128) (n p : Nat), n < 128 → p < 128 →
    (rotl128 K n).getLsbD p = K.getLsbD ((p + 128 - n) % 128))

/-- 41_key_scheduler.md R130, R132 (derived there): rotations compose, and the encryption schedule in closed form. -/
def Obligations.EncryptionScheduleClosedForm : Prop :=
  (∀ (K : Key128) (a b : Nat), a < 128 → b < 128 → rotl128 (rotl128 K a) b = rotl128 K ((a + b) % 128)) ∧
  (∀ (K : Key128) (n j : Nat), n ≤ 6 → j ≤ 7 → 8 * n + j ≤ 51 →
    subkey (generateEncryptionSubkeys K) (8 * n + j) = seg (rotl128 K (25 * n % 128)) j)

/-- 41_key_scheduler.md R134: the decryption schedule, formula by formula. -/
def Obligations.DecryptionScheduleByRule : Prop :=
  ∀ E : Subkeys,
    (∀ i : Nat, i ≤ 7 →
      subkey (generateDecryptionSubkeys E) (6 * i) = modMulInverse (subkey E (46 - 6 * i + 2)) ∧
      subkey (generateDecryptionSubkeys E) (6 * i + 1) =
        modAddInverse (subkey E (46 - 6 * i + if i = 0 then 3 else 4)) ∧
      subkey (generateDecryptionSubkeys E) (6 * i + 2) =
        modAddInverse (subkey E (46 - 6 * i + if i = 0 then 4 else 3)) ∧
      subkey (generateDecryptionSubkeys E) (6 * i + 3) = modMulInverse (subkey E (46 - 6 * i + 5)) ∧
      subkey (generateDecryptionSubkeys E) (6 * i + 4) = subkey E (46 - 6 * i) ∧
      subkey (generateDecryptionSubkeys E) (6 * i + 5) = subkey E (46 - 6 * i + 1)) ∧
    subkey (generateDecryptionSubkeys E) 48 = modMulInverse (subkey E 0) ∧
    subkey (generateDecryptionSubkeys E) 49 = modAddInverse (subkey E 1) ∧
    subkey (generateDecryptionSubkeys E) 50 = modAddInverse (subkey E 2) ∧
    subkey (generateDecryptionSubkeys E) 51 = modMulInverse (subkey E 3)

/-- 41_key_scheduler.md R141 (derived there): the decryption schedule of the decryption schedule is the sequence itself. -/
def Obligations.DecryptionScheduleIsAnInvolution : Prop :=
  ∀ E : Subkeys, generateDecryptionSubkeys (generateDecryptionSubkeys E) = E

/-- 00_scope.md R10: a block and a key are split into segments and rejoined. -/
def Obligations.BlockAndKeySplitAndRejoin : Prop :=
  (∀ B : Block64, blockBits (blockOfBits B) = B) ∧ (∀ X : Block, blockOfBits (blockBits X) = X) ∧
  (∀ K : Key128, keyBits (Vector.ofFn fun j => seg K j.val) = K) ∧
  (∀ (k : Vector Word 8) (j : Fin 8), seg (keyBits k) j.val = k[j]) ∧
  (∀ (B : Block64) (j : Fin 4) (p : Nat), p < 16 →
    (blockWord (blockOfBits B) j).getLsbD p = B.getLsbD (48 - 16 * j.val + p)) ∧
  (∀ (K : Key128) (j : Fin 8) (p : Nat), p < 16 → (seg K j.val).getLsbD p = K.getLsbD (112 - 16 * j.val + p))

/-- 20_memory.md R62: byte buffers are big-endian, so word `j` is byte `2j` then byte `2j + 1`. -/
def Obligations.ByteBuffersAreBigEndian : Prop :=
  (∀ (b : Vector (BitVec 8) 8) (j : Fin 4),
    blockWord (blockOfBits (blockOfBytes b)) j = b[2 * j.val] ++ b[2 * j.val + 1]) ∧
  (∀ (b : Vector (BitVec 8) 16) (j : Fin 8), seg (keyOfBytes b) j.val = b[2 * j.val] ++ b[2 * j.val + 1])

/-- 42_round_engine.md R155: the round-trip contract, "the primary correctness contract of the whole core". -/
def Obligations.DecryptUndoesEncrypt : Prop :=
  ∀ (B : Block64) (K : Key128), decrypt (encrypt B K) K = B

/-- 42_round_engine.md R155, its generalisation (derived there): the decryption schedule of any sequence undoes it. -/
def Obligations.DecryptionKeysUndoTransform : Prop :=
  ∀ (B : Block64) (S : Subkeys), transform (transform B S) (generateDecryptionSubkeys S) = B

/-- 42_round_engine.md R153 (derived there): `transform` is a bijection on blocks for every sequence. -/
def Obligations.TransformIsBijective : Prop :=
  ∀ S : Subkeys, Function.Bijective fun B : Block64 => transform B S

/-! ### Core steps -/

/-- 41_key_scheduler.md R137: a core step of phase `KSE`. -/
def Obligations.KseStepByRule : Prop :=
  ∀ (s : State) (n : Nat), s.ph = .kse → s.cnt = BitVec.ofNat 4 n → n ≤ 6 →
    ∃ E : Subkeys,
      (∀ j : Nat, j ≤ 7 → 8 * n + j ≤ 51 → subkey E (8 * n + j) = seg s.kr j) ∧
      (∀ i : Nat, i ≤ 51 → i / 8 ≠ n → subkey E i = subkey s.ek i) ∧
      (n < 6 → coreStep s = .next { s with ek := E, kr := rotl128 s.kr 25, cnt := BitVec.ofNat 4 (n + 1) }) ∧
      (n = 6 → s.cur = 0x6#4 → coreStep s =
        .next { s with ek := E, kr := rotl128 s.kr 25, kv := true, ph := .idle, cnt := 0#4, done := true }) ∧
      (n = 6 → s.cur = 0xA#4 → coreStep s =
        .next { s with ek := E, kr := rotl128 s.kr 25, kv := true, ph := .rnd, cnt := 0#4 }) ∧
      (n = 6 → s.cur = 0xB#4 → coreStep s =
        .next { s with ek := E, kr := rotl128 s.kr 25, kv := true, dv := false, ph := .ksd, cnt := 0#4 })

/-- 41_key_scheduler.md R140: a core step of phase `KSD`, with the indices of the rule written out. -/
def Obligations.KsdStepByRule : Prop :=
  ∀ (s : State) (i : Nat), s.ph = .ksd → s.cnt = BitVec.ofNat 4 i → i ≤ 8 →
    ∃ D : Subkeys,
      (∀ k : Nat, k ≤ 51 → k / 6 ≠ i → subkey D k = subkey s.dk k) ∧
      (i ≤ 7 →
        subkey D (6 * i) = modMulInverse (subkey s.ek (46 - 6 * i + 2)) ∧
        subkey D (6 * i + 1) = modAddInverse (subkey s.ek (46 - 6 * i + if i = 0 then 3 else 4)) ∧
        subkey D (6 * i + 2) = modAddInverse (subkey s.ek (46 - 6 * i + if i = 0 then 4 else 3)) ∧
        subkey D (6 * i + 3) = modMulInverse (subkey s.ek (46 - 6 * i + 5)) ∧
        subkey D (6 * i + 4) = subkey s.ek (46 - 6 * i) ∧
        subkey D (6 * i + 5) = subkey s.ek (46 - 6 * i + 1) ∧
        coreStep s = .next { s with dk := D, cnt := BitVec.ofNat 4 (i + 1) }) ∧
      (i = 8 →
        subkey D 48 = modMulInverse (subkey s.ek 0) ∧ subkey D 49 = modAddInverse (subkey s.ek 1) ∧
        subkey D 50 = modAddInverse (subkey s.ek 2) ∧ subkey D 51 = modMulInverse (subkey s.ek 3) ∧
        (s.cur = 0x7#4 →
          coreStep s = .next { s with dk := D, dv := true, ph := .idle, cnt := 0#4, done := true }) ∧
        (s.cur = 0xB#4 → coreStep s = .next { s with dk := D, dv := true, ph := .rnd, cnt := 0#4 }))

/-- 42_round_engine.md R158 with R150, R151, R152: a core step of phase `RND`, the fourteen lines and the output transformation
written out. -/
def Obligations.RndStepByRule : Prop :=
  ∀ (s : State) (r : Nat), s.ph = .rnd → s.cnt = BitVec.ofNat 4 r → r ≤ 8 →
    ∀ SK : Subkeys, SK = (if s.cur.getLsbD 0 then s.dk else s.ek) →
      (r ≤ 7 →
        ∀ one two three four five six seven eight nine ten : Word,
          one = modMul s.x.x0 (subkey SK (6 * r)) → two = modAdd s.x.x1 (subkey SK (6 * r + 1)) →
          three = modAdd s.x.x2 (subkey SK (6 * r + 2)) → four = modMul s.x.x3 (subkey SK (6 * r + 3)) →
          five = xor16 one three → six = xor16 two four →
          seven = modMul five (subkey SK (6 * r + 4)) → eight = modAdd six seven →
          nine = modMul eight (subkey SK (6 * r + 5)) → ten = modAdd seven nine →
          coreStep s = .next { s with
            cnt := BitVec.ofNat 4 (r + 1)
            x := if r = 7
              then { x0 := xor16 one nine, x1 := xor16 two ten, x2 := xor16 three nine, x3 := xor16 four ten }
              else { x0 := xor16 one nine, x1 := xor16 three nine, x2 := xor16 two ten, x3 := xor16 four ten } }) ∧
      (r = 8 →
        coreStep s = .next { s with
          x := { x0 := modMul s.x.x0 (subkey SK 48), x1 := modAdd s.x.x1 (subkey SK 49),
                 x2 := modAdd s.x.x2 (subkey SK 50), x3 := modMul s.x.x3 (subkey SK 51) }
          ph := .idle, cnt := 0#4, done := true })

/-- The conditions under which 43_control.md R181 accepts a command (70_reset_and_hazards.md R222). -/
def Sys2Proof.Machine.acceptedByRule (i : Instr) (s : State) : Prop :=
  match i with
  | .nop | .xor | .add | .addinv | .mul | .mulinv => True
  | .ekgen => s.kw = 0xFF#8
  | .dkgen => s.kv = true
  | .xformE => s.kv = true ∧ s.xw = 0xF#4
  | .xformD => s.dv = true ∧ s.xw = 0xF#4
  | .encrypt | .decrypt => s.kw = 0xFF#8 ∧ s.xw = 0xF#4

/-- The step counts of 70_reset_and_hazards.md R225. -/
def Sys2Proof.Machine.stepCountByRule : Instr → Nat
  | .nop | .xor | .add | .addinv | .mul | .mulinv => 0
  | .ekgen => 7
  | .dkgen | .xformE | .xformD => 9
  | .encrypt => 16
  | .decrypt => 25

/-- 70_reset_and_hazards.md R225: an accepted command is busy for exactly its number of core steps, whatever the data, and then
done. -/
def Obligations.StepCountsAreFixed : Prop :=
  ∀ (i : Instr) (s : State), s.ph = .idle → acceptedByRule i s →
    ∃ t, exec i s = .next t ∧
      (∀ k, k < stepCountByRule i → ∃ u, coreSteps k t = .next u ∧ u.busy = true ∧ u.done = false) ∧
      (∃ u, coreSteps (stepCountByRule i) t = .next u ∧ u.busy = false ∧ u.done = true ∧ u.cur = i.opcode)

/-- 70_reset_and_hazards.md R226 (derived there): from a sound busy state the core is idle after at most 25 core steps. -/
def Obligations.CoreIsIdleWithin25Steps : Prop :=
  ∀ s : State, Sound s → s.ph ≠ .idle →
    ∃ n t, 1 ≤ n ∧ n ≤ 25 ∧ coreSteps n s = .next t ∧ t.ph = .idle ∧ t.done = true

/-- 70_reset_and_hazards.md R227: which step follows never depends on key or block values, nor on anything but `PH`, `CNT`,
`CUR`. That a core step stops, by the fault `noSequencerRow`, in a combination of the three that 43_control.md R182 has no row for is
the model's (log 4, DEDUCED). -/
def Obligations.ControlIsDataIndependent : Prop :=
  ∀ s s' : State, s.ph = s'.ph → s.cnt = s'.cnt → s.cur = s'.cur →
    (∀ t, coreStep s = .next t → ∃ t', coreStep s' = .next t' ∧ t'.ph = t.ph ∧ t'.cnt = t.cnt ∧ t'.cur = t.cur) ∧
    (∀ f, coreStep s = .fault f → coreStep s' = .fault f)

/-- 60_exceptions.md R206: in phase `RND` with `CNT = r` the host sees the block after `r` full rounds. -/
def Obligations.RoundsAreVisibleWhileBusy : Prop :=
  ∀ (s : State) (r : Nat), s.ph = .rnd → s.cnt = 0#4 → r ≤ 8 →
    coreSteps r s = .next { s with
      x := roundsUpTo (if s.cur.getLsbD 0 then s.dk else s.ek) r s.x, cnt := BitVec.ofNat 4 r }

/-! ### Acceptance and the register space -/

/-- 43_control.md R181: any word written to CMD while idle does what the rule's pseudocode says. -/
def Obligations.AcceptanceByRule : Prop :=
  ∀ (s : State) (w : Word), s.ph = .idle → hostWrite s 0x10#8 w = .next (acceptByRule s w)

/-- 30_encoding.md R83: every word is one of the twelve commands or illegal; an illegal word clears `DONE`, raises `E_ILLCMD` and
changes nothing else; `NOP` is a real command. -/
def Obligations.EveryWordIsACommandOrIllegal : Prop :=
  (∀ w : Word, (∃ i, decode w = .ok i) ↔ (w.toNat / 16 = 0 ∧ w.toNat % 16 < 0xC)) ∧
  (∀ (s : State) (w : Word), s.ph = .idle → (w.toNat / 16 ≠ 0 ∨ w.toNat % 16 ≥ 0xC) →
    hostWrite s 0x10#8 w = .next { s with done := false, err := s.err ||| 0x08#6 }) ∧
  (∀ s : State, s.ph = .idle →
    hostWrite s 0x10#8 0x0000#16 = .next { s with cur := 0x0#4, ph := .idle, cnt := 0#4, done := true })

/-- 20_memory.md R53: the order of the checks of a host write; a later check is reached only when the earlier ones pass. -/
def Obligations.HostWriteChecksInOrder : Prop :=
  ∀ (s : State) (a : Addr) (v : Word),
    (a = 0x11#8 → hostWrite s a v = .next { s with err := s.err &&& ~~~(v.extractLsb' 8 6) }) ∧
    (unmappedByRule a.toNat ∨ readOnlyByRule a.toNat → hostWrite s a v = .next { s with err := s.err ||| 0x20#6 }) ∧
    (a ≠ 0x11#8 → ¬ (unmappedByRule a.toNat ∨ readOnlyByRule a.toNat) → s.ph ≠ .idle →
      hostWrite s a v = .next { s with err := s.err ||| 0x10#6 }) ∧
    (s.ph = .idle → ∀ j : Fin 8, a.toNat = j.val → hostWrite s a v = .next (s.writeKey j v)) ∧
    (s.ph = .idle → ∀ j : Fin 4, a.toNat = 8 + j.val → hostWrite s a v = .next (s.writeX j v)) ∧
    (s.ph = .idle → a = 0x0C#8 → hostWrite s a v = .next { s with opa := v }) ∧
    (s.ph = .idle → a = 0x0D#8 → hostWrite s a v = .next { s with opb := v }) ∧
    (s.ph = .idle → a = 0x10#8 → hostWrite s a v = .next (acceptByRule s v))

/-- 20_memory.md R54, R55, R56: what a performed write of a data register changes. -/
def Obligations.DataRegisterWrites : Prop :=
  (∀ (s : State) (j : Fin 8) (v : Word), s.ph = .idle →
    ∃ (k : Vector Word 8) (m : BitVec 8),
      (∀ i : Fin 8, k[i] = if i = j then v else s.key[i]) ∧
      (∀ i : Fin 8, m.getLsbD i = if i = j then true else s.kw.getLsbD i) ∧
      hostWrite s (BitVec.ofNat 8 j.val) v = .next { s with key := k, kw := m, kv := false, dv := false }) ∧
  (∀ (s : State) (j : Fin 4) (v : Word), s.ph = .idle →
    ∃ (x : Block) (m : BitVec 4),
      (∀ i : Fin 4, blockWord x i = if i = j then v else blockWord s.x i) ∧
      (∀ i : Fin 4, m.getLsbD i = if i = j then true else s.xw.getLsbD i) ∧
      hostWrite s (BitVec.ofNat 8 (8 + j.val)) v = .next { s with x := x, xw := m }) ∧
  (∀ (s : State) (v : Word), s.ph = .idle →
    hostWrite s 0x0C#8 v = .next { s with opa := v } ∧ hostWrite s 0x0D#8 v = .next { s with opb := v })

/-- 20_memory.md R58: a write to STATUS clears exactly the error bits whose bit of the value is 1, busy or not. -/
def Obligations.StatusWriteClearsNamedErrors : Prop :=
  ∀ (s : State) (v : Word), ∃ e : BitVec 6,
    hostWrite s 0x11#8 v = .next { s with err := e } ∧
    ∀ i, i < 6 → e.getLsbD i = (s.err.getLsbD i && !v.getLsbD (8 + i))

/-- 20_memory.md R52 over the map of R51: what each address reads as, and that only an unmapped read changes the state. -/
def Obligations.HostReadByMap : Prop :=
  (∀ (s : State) (j : Fin 8), readValue s (BitVec.ofNat 8 j.val) = s.key[j]) ∧
  (∀ s : State, readValue s 0x08#8 = s.x.x0 ∧ readValue s 0x09#8 = s.x.x1 ∧
    readValue s 0x0A#8 = s.x.x2 ∧ readValue s 0x0B#8 = s.x.x3 ∧
    readValue s 0x0C#8 = s.opa ∧ readValue s 0x0D#8 = s.opb ∧ readValue s 0x0E#8 = s.res ∧
    readValue s 0x10#8 = 0#16 ∧ readValue s 0x11#8 = statusWord s ∧ readValue s 0x12#8 = seqWord s ∧
    readValue s 0x13#8 = masksWord s) ∧
  (∀ (s : State) (j : Fin 8), readValue s (BitVec.ofNat 8 (0x18 + j.val)) = s.kr.extractLsb' (112 - 16 * j.val) 16) ∧
  (∀ (s : State) (i : Fin 52), readValue s (BitVec.ofNat 8 (0x40 + i.val)) = s.ek[i]) ∧
  (∀ (s : State) (i : Fin 52), readValue s (BitVec.ofNat 8 (0x80 + i.val)) = s.dk[i]) ∧
  (∀ (s : State) (a : Addr), ¬ unmappedByRule a.toNat → readState s a = s) ∧
  (∀ (s : State) (a : Addr), unmappedByRule a.toNat →
    readValue s a = 0#16 ∧ readState s a = { s with err := s.err ||| 0x20#6 })

/-- 10_state.md R29, R35, R36 bit by bit, and the output lines of 60_exceptions.md R200, which are copies of STATUS bits. -/
def Obligations.StatusSeqMasksBits : Prop :=
  ∀ s : State,
    (statusWord s).getLsbD 0 = (s.ph != .idle) ∧ (statusWord s).getLsbD 1 = s.done ∧
    (statusWord s).getLsbD 2 = s.kv ∧ (statusWord s).getLsbD 3 = s.dv ∧
    (∀ i, 4 ≤ i → i ≤ 7 → (statusWord s).getLsbD i = false) ∧
    (∀ c, 1 ≤ c → c ≤ 6 → (statusWord s).getLsbD (7 + c) = s.err.getLsbD (c - 1)) ∧
    (statusWord s).getLsbD 14 = false ∧ (statusWord s).getLsbD 15 = false ∧
    (seqWord s).extractLsb' 0 2 =
      (match s.ph with | .idle => 0#2 | .kse => 1#2 | .ksd => 2#2 | .rnd => 3#2) ∧
    (seqWord s).extractLsb' 2 4 = s.cnt ∧ (seqWord s).extractLsb' 6 4 = s.cur ∧
    (seqWord s).extractLsb' 10 6 = 0#6 ∧
    (masksWord s).extractLsb' 0 8 = s.kw ∧ (masksWord s).extractLsb' 8 4 = s.xw ∧
    (masksWord s).extractLsb' 12 4 = 0#4 ∧
    busyLine s = (statusWord s).getLsbD 0 ∧ doneLine s = (statusWord s).getLsbD 1 ∧
    (errLine s = true ↔ (statusWord s).extractLsb' 8 6 ≠ 0#6)

/-! ### The whole machine -/

/-- 10_state.md R34: `raise` sets the bit of its cause; an error bit that is set stays set, but for an acknowledgement that names it
or a reset; commands are accepted whatever `ERR` holds. -/
def Obligations.ErrorBitsAreSticky : Prop :=
  (∀ (s : State) (c : Cause) (i : Nat),
    (s.raise c).err.getLsbD i = (s.err.getLsbD i || (i + 1 == causeCode c))) ∧
  (∀ (s t : State) (i : Nat), step s = .next t → s.err.getLsbD i = true → t.err.getLsbD i = false →
    ∃ l rest, s.host = l :: rest ∧ mover s = some .host ∧
      (l = .rst ∨ ∃ v : Word, l = .wr 0x11#8 v ∧ v.getLsbD (8 + i) = true)) ∧
  (∀ (i : Instr) (s : State) (e : BitVec 6), s.ph = .idle → acceptedByRule i s →
    ∃ t, exec i { s with err := e } = .next t ∧ t.cur = i.opcode ∧ t.err = e)

/-- 10_state.md R21, R22: the key registers and their mask change only by a performed host write of a `KEYj` or by reset. -/
def Obligations.KeyChangesOnlyByHostWriteOrReset : Prop :=
  ∀ s t : State, step s = .next t → t.key ≠ s.key ∨ t.kw ≠ s.kw →
    ∃ l rest, s.host = l :: rest ∧ mover s = some .host ∧
      (l = .rst ∨ (s.ph = .idle ∧ ∃ a v, l = .wr a v ∧ a.toNat < 8))

/-- 10_state.md R23 to R28: who changes `KR`, `EK`, `DK`, `X`, `XW`, `OPA`, `OPB` and `RES`, apart from reset. -/
def Obligations.EachRegisterHasItsOwnWriters : Prop :=
  ∀ s t : State, step s = .next t → (∀ rest, s.host = .rst :: rest → mover s ≠ some .host) →
    (t.ek ≠ s.ek → s.ph = .kse ∧ mover s = some .core) ∧
    (t.dk ≠ s.dk → s.ph = .ksd ∧ mover s = some .core) ∧
    (t.kr ≠ s.kr → (s.ph = .kse ∧ mover s = some .core) ∨
      (s.ph = .idle ∧ ∃ i rest, i ∈ [Instr.ekgen, .encrypt, .decrypt] ∧ s.host = .wr 0x10#8 (encode i) :: rest)) ∧
    (t.x ≠ s.x → (s.ph = .rnd ∧ mover s = some .core) ∨
      (s.ph = .idle ∧ ∃ a v rest, s.host = .wr a v :: rest ∧ 8 ≤ a.toNat ∧ a.toNat < 12)) ∧
    (t.xw ≠ s.xw → s.ph = .idle ∧ ∃ a v rest, s.host = .wr a v :: rest ∧ 8 ≤ a.toNat ∧ a.toNat < 12) ∧
    (t.opa ≠ s.opa → s.ph = .idle ∧ ∃ v rest, s.host = .wr 0x0C#8 v :: rest) ∧
    (t.opb ≠ s.opb → s.ph = .idle ∧ ∃ v rest, s.host = .wr 0x0D#8 v :: rest) ∧
    (t.res ≠ s.res → s.ph = .idle ∧ ∃ i rest, i ∈ [Instr.xor, .add, .addinv, .mul, .mulinv] ∧
      s.host = .wr 0x10#8 (encode i) :: rest)

/-- The frame of the acceptance transition of each command, on every address the host can read (30_encoding.md R84): apart from
STATUS and SEQ only `RES` (primitives) and `KR` (EKGEN, ENCRYPT, DECRYPT) may read otherwise, and in STATUS only `BUSY`, `DONE`,
the valid flags of the schedule commands and the error bits. That the host agent's own fields stay is the model's choice (logs 1, 2,
3). -/
def Obligations.CommandAcceptanceFrame : Prop :=
  ∀ (i : Instr) (s t : State), exec i s = .next t →
    (∀ a : Addr, a ≠ 0x11#8 → a ≠ 0x12#8 →
      (i ∈ [Instr.xor, .add, .addinv, .mul, .mulinv] → a ≠ 0x0E#8) →
      (i ∈ [Instr.ekgen, .encrypt, .decrypt] → ¬ (0x18 ≤ a.toNat ∧ a.toNat ≤ 0x1F)) →
      readValue t a = readValue s a) ∧
    (i ∉ [Instr.ekgen, .encrypt, .decrypt] → t.kv = s.kv) ∧
    (i ∉ [Instr.ekgen, .dkgen, .encrypt, .decrypt] → t.dv = s.dv) ∧
    (i ∈ [Instr.nop, .xor, .add, .addinv, .mul, .mulinv] → s.ph = .idle → t.err = s.err ∧ t.ph = s.ph) ∧
    t.host = s.host ∧ t.turns = s.turns ∧ t.log = s.log

/-- The frame of a core step, on every address the host can read: apart from STATUS and SEQ only the registers of the phase in
progress may read otherwise, and no error bit changes (60_exceptions.md R191, "No core step raises an error"). That the host agent's
own fields stay is the model's choice (logs 1, 2, 3). -/
def Obligations.CoreStepFrame : Prop :=
  ∀ s t : State, coreStep s = .next t →
    (∀ a : Addr, a ≠ 0x11#8 → a ≠ 0x12#8 →
      (s.ph = .kse → ¬ (0x18 ≤ a.toNat ∧ a.toNat ≤ 0x1F) ∧ ¬ (0x40 ≤ a.toNat ∧ a.toNat ≤ 0x73)) →
      (s.ph = .ksd → ¬ (0x80 ≤ a.toNat ∧ a.toNat ≤ 0xB3)) →
      (s.ph = .rnd → ¬ (0x08 ≤ a.toNat ∧ a.toNat ≤ 0x0B)) →
      readValue t a = readValue s a) ∧
    t.err = s.err ∧ t.cur = s.cur ∧
    (s.ph ≠ .kse → t.kv = s.kv) ∧ (s.ph = .rnd → t.dv = s.dv) ∧
    t.host = s.host ∧ t.turns = s.turns ∧ t.log = s.log

/-- 70_reset_and_hazards.md R220, R221: `Reset` in any state, busy or not, sets every element to the reset value of 10_state.md
R38. -/
def Obligations.ResetFromAnyState : Prop :=
  ∀ (s : State) (rest : List HostLine), s.host = .rst :: rest → (s.ph = .idle ∨ s.turns.head? = some .host) →
    ∃ t, step s = .next t ∧
      t.key = Vector.replicate 8 0#16 ∧ t.kw = 0#8 ∧ t.kr = 0#128 ∧ t.ek = Vector.replicate 52 0#16 ∧
      t.dk = Vector.replicate 52 0#16 ∧ t.x = { x0 := 0#16, x1 := 0#16, x2 := 0#16, x3 := 0#16 } ∧ t.xw = 0#4 ∧
      t.opa = 0#16 ∧ t.opb = 0#16 ∧ t.res = 0#16 ∧ t.done = false ∧ t.kv = false ∧ t.dv = false ∧ t.err = 0#6 ∧
      t.ph = .idle ∧ t.cnt = 0#4 ∧ t.cur = 0#4

/-- 00_scope.md R7, 20_memory.md R52, R53, R57, 30_encoding.md R86: what a step of the machine is when the host moves, line by line,
while idle and, with the turn the host's, while busy. A write of a word to CMD that decodes to a command is, while idle, `exec` of that
command; a `wr` line is `hostWrite` of its address and value, whatever they are; an `rd` line leaves `readState` and appends the address
and `readValue` to the log; a `WAIT` line goes when `BUSY` reads 0 and stays else; a `RST` line is the reset. Each acts on the state with
the line, and the turn where one was used, taken off. That lines, turns and log are lists in the state, that a reset leaves them, and that
a `WAIT` is one read a step, are the model's choices (logs 1, 2, 3, 6, 14). -/
def Obligations.StepRunsTheDecodedCommand : Prop :=
  (∀ (s : State) (i : Instr) (w : Word) (rest : List HostLine),
    s.ph = .idle → s.host = .wr 0x10#8 w :: rest → decode w = .ok i →
      step s = exec i { s with host := rest }) ∧
  (∀ (s : State) (a : Addr) (v : Word) (rest : List HostLine), s.host = .wr a v :: rest →
    (s.ph = .idle → step s = hostWrite { s with host := rest } a v) ∧
    (∀ ts, s.ph ≠ .idle → s.turns = .host :: ts → step s = hostWrite { s with host := rest, turns := ts } a v)) ∧
  (∀ (s : State) (a : Addr) (rest : List HostLine), s.host = .rd a :: rest →
    (s.ph = .idle → step s =
      .next { readState { s with host := rest } a with log := s.log ++ [(a, readValue { s with host := rest } a)] }) ∧
    (∀ ts, s.ph ≠ .idle → s.turns = .host :: ts → step s =
      .next { readState { s with host := rest, turns := ts } a with
        log := s.log ++ [(a, readValue { s with host := rest, turns := ts } a)] })) ∧
  (∀ (s : State) (rest : List HostLine), s.host = .wait :: rest →
    (s.ph = .idle → step s = .next { s with host := rest }) ∧
    (∀ ts, s.ph ≠ .idle → s.turns = .host :: ts → step s = .next { s with turns := ts })) ∧
  (∀ (s : State) (rest : List HostLine), s.host = .rst :: rest →
    (s.ph = .idle → step s = .next { State.reset with host := rest, turns := s.turns, log := s.log }) ∧
    (∀ ts, s.ph ≠ .idle → s.turns = .host :: ts →
      step s = .next { State.reset with host := rest, turns := ts, log := s.log }))

/-- 30_encoding.md R81: words written out from the table decode to their commands, and reserved words do not decode. -/
def Obligations.TableWordsDecode : Prop :=
  decode 0b0000000000000000#16 = .ok .nop ∧ decode 0b0000000000000100#16 = .ok .mul ∧
  decode 0b0000000000000110#16 = .ok .ekgen ∧ decode 0b0000000000001001#16 = .ok .xformD ∧
  decode 0b0000000000001011#16 = .ok .decrypt ∧
  decode 0b0000000000001100#16 = .illegal .reservedOpcode ∧ decode 0b0000000000010110#16 = .illegal .zeroFieldSet

/-- 30_encoding.md R80, R81: a word decodes to a command exactly when it is that command's encoding. -/
def Obligations.DecodeAndEncodeAgree : Prop :=
  (∀ i : Instr, i.wellFormed = true → decode (encode i) = .ok i) ∧
  (∀ (w : Word) (i : Instr), decode w = .ok i → w = encode i ∧ w.wellFormed = true)

/-- 20_memory.md R67 under the model's choice of log 2: the core moves only while busy, a busy core and a waiting host may go either
way, and with nothing enabled the state stays (log 7). -/
def Obligations.AgentsInterleaveByTurns : Prop :=
  (∀ s : State, mover s = some .core → s.ph ≠ .idle) ∧
  (∀ s : State, s.ph ≠ .idle → s.host = [] → step s = coreStep s) ∧
  (∀ (s : State) (ts : List Agent), s.ph ≠ .idle → s.host ≠ [] →
    step { s with turns := .core :: ts } = coreStep { s with turns := ts } ∧
    step { s with turns := .host :: ts } = hostMove { s with turns := ts } ∧
    step { s with turns := [] } = coreStep { s with turns := [] }) ∧
  (∀ s : State, s.ph = .idle → s.host ≠ [] → step s = hostMove s) ∧
  (∀ s : State, s.ph = .idle → s.host = [] → step s = .next s)

/-- 10_state.md R38: the invariant holds after reset. -/
def Obligations.SoundAfterReset : Prop := Sound State.reset

/-- Every transition of the machine keeps the invariant: with 10_state.md R30, R31, R35, 43_control.md R182, 60_exceptions.md R206.
That the host's lines and the turns are lists in the state, and the quiescent step, are the model's choices (logs 1, 2, 7). -/
def Obligations.EveryStepKeepsSound : Prop :=
  ∀ s t : State, Sound s → step s = .next t → Sound t

/-- 43_control.md R184: there is no stuck state (derived there); a sound machine always has a next state. That an idle machine
with no line pending steps to itself is the model's choice (log 7), and so is the only stop a core step has, the fault
`noSequencerRow` (log 4), which no sound state meets. -/
def Obligations.SoundMachineNeverStops : Prop :=
  ∀ s : State, Sound s → ∃ t, step s = .next t

/-- 20_memory.md R71, 10_state.md R21, "immutable inputs": whatever the host reads and writes (short of a reset) while a command is in
progress, the command's working state is the one a number of core steps alone would have made. That the host's lines and the turns are
lists in the state is the model's choice (logs 1, 2). -/
def Obligations.HostTrafficCannotDisturbACommand : Prop :=
  ∀ (n : Nat) (s t : State), noReset s.host = true →
    (∀ m u, m ≤ n → Host.Core.run Sys2Proof.core m s = .next u → u.ph ≠ .idle) →
    Host.Core.run Sys2Proof.core n s = .next t →
      ∃ k, k ≤ n ∧ coreSteps k s.quiet = .next t.quiet

/-- 70_reset_and_hazards.md R226, "every `WAIT` of the host notation ends": within as many steps as there are turns listed, plus 25
core steps and the last read. That the core moves when the turns run out, which stands for the rule's weak fairness, that the
lines still pending are a list in the state, and that each read of a `WAIT` is one step, are the model's (logs 2 and 1, DESIGN CHOICE,
and 14, DEDUCED). -/
def Obligations.WaitEnds : Prop :=
  ∀ (s : State) (rest : List HostLine), Sound s → s.host = .wait :: rest →
    ∃ n t, n ≤ s.turns.length + 26 ∧ Host.Core.run Sys2Proof.core n s = .next t ∧ t.ph = .idle ∧ t.host = rest

/-- 42_round_engine.md R162: ENCRYPT followed by DECRYPT with the same `KEY` and no write to `X` restores the block. -/
def Obligations.EncryptThenDecryptRestoresX : Prop :=
  ∀ s : State, s.ph = .idle → s.kw = 0xFF#8 → s.xw = 0xF#4 →
    ∃ t u v w, exec .encrypt s = .next t ∧ coreSteps 16 t = .next u ∧
      exec .decrypt u = .next v ∧ coreSteps 25 v = .next w ∧ w.x = s.x ∧ w.key = s.key ∧ w.err = s.err

/-- 42_round_engine.md R164: on a sound machine whose schedules are valid, XFORM.E then XFORM.D restores the block and leaves both
schedules as they were. -/
def Obligations.XformEThenXformDRestoresX : Prop :=
  ∀ s : State, Sound s → s.ph = .idle → s.dv = true → s.xw = 0xF#4 →
    ∃ t u v w, exec .xformE s = .next t ∧ coreSteps 9 t = .next u ∧
      exec .xformD u = .next v ∧ coreSteps 9 v = .next w ∧ w.x = s.x ∧ w.ek = s.ek ∧ w.dk = s.dk ∧
      w.kv = true ∧ w.dv = true
end

