-- ==== Sys2Proof/Laws/State.lean ====
section
/-! SUPPORT. One lemma per field per named update of the state, true by rfl. -/

namespace Sys2Proof.Machine

@[simp] theorem State.raise_key (s : State) (c : Cause) : (s.raise c).key = s.key := rfl
@[simp] theorem State.raise_kw (s : State) (c : Cause) : (s.raise c).kw = s.kw := rfl
@[simp] theorem State.raise_kr (s : State) (c : Cause) : (s.raise c).kr = s.kr := rfl
@[simp] theorem State.raise_ek (s : State) (c : Cause) : (s.raise c).ek = s.ek := rfl
@[simp] theorem State.raise_dk (s : State) (c : Cause) : (s.raise c).dk = s.dk := rfl
@[simp] theorem State.raise_x (s : State) (c : Cause) : (s.raise c).x = s.x := rfl
@[simp] theorem State.raise_xw (s : State) (c : Cause) : (s.raise c).xw = s.xw := rfl
@[simp] theorem State.raise_opa (s : State) (c : Cause) : (s.raise c).opa = s.opa := rfl
@[simp] theorem State.raise_opb (s : State) (c : Cause) : (s.raise c).opb = s.opb := rfl
@[simp] theorem State.raise_res (s : State) (c : Cause) : (s.raise c).res = s.res := rfl
@[simp] theorem State.raise_done (s : State) (c : Cause) : (s.raise c).done = s.done := rfl
@[simp] theorem State.raise_kv (s : State) (c : Cause) : (s.raise c).kv = s.kv := rfl
@[simp] theorem State.raise_dv (s : State) (c : Cause) : (s.raise c).dv = s.dv := rfl
@[simp] theorem State.raise_err (s : State) (c : Cause) : (s.raise c).err = s.err ||| causeMask c := rfl
@[simp] theorem State.raise_ph (s : State) (c : Cause) : (s.raise c).ph = s.ph := rfl
@[simp] theorem State.raise_cnt (s : State) (c : Cause) : (s.raise c).cnt = s.cnt := rfl
@[simp] theorem State.raise_cur (s : State) (c : Cause) : (s.raise c).cur = s.cur := rfl
@[simp] theorem State.raise_host (s : State) (c : Cause) : (s.raise c).host = s.host := rfl
@[simp] theorem State.raise_turns (s : State) (c : Cause) : (s.raise c).turns = s.turns := rfl
@[simp] theorem State.raise_log (s : State) (c : Cause) : (s.raise c).log = s.log := rfl

@[simp] theorem State.acknowledge_key (s : State) (v : Word) : (s.acknowledge v).key = s.key := rfl
@[simp] theorem State.acknowledge_kw (s : State) (v : Word) : (s.acknowledge v).kw = s.kw := rfl
@[simp] theorem State.acknowledge_kr (s : State) (v : Word) : (s.acknowledge v).kr = s.kr := rfl
@[simp] theorem State.acknowledge_ek (s : State) (v : Word) : (s.acknowledge v).ek = s.ek := rfl
@[simp] theorem State.acknowledge_dk (s : State) (v : Word) : (s.acknowledge v).dk = s.dk := rfl
@[simp] theorem State.acknowledge_x (s : State) (v : Word) : (s.acknowledge v).x = s.x := rfl
@[simp] theorem State.acknowledge_xw (s : State) (v : Word) : (s.acknowledge v).xw = s.xw := rfl
@[simp] theorem State.acknowledge_opa (s : State) (v : Word) : (s.acknowledge v).opa = s.opa := rfl
@[simp] theorem State.acknowledge_opb (s : State) (v : Word) : (s.acknowledge v).opb = s.opb := rfl
@[simp] theorem State.acknowledge_res (s : State) (v : Word) : (s.acknowledge v).res = s.res := rfl
@[simp] theorem State.acknowledge_done (s : State) (v : Word) : (s.acknowledge v).done = s.done := rfl
@[simp] theorem State.acknowledge_kv (s : State) (v : Word) : (s.acknowledge v).kv = s.kv := rfl
@[simp] theorem State.acknowledge_dv (s : State) (v : Word) : (s.acknowledge v).dv = s.dv := rfl
@[simp] theorem State.acknowledge_err (s : State) (v : Word) : (s.acknowledge v).err = s.err &&& ~~~ statusClearField v := rfl
@[simp] theorem State.acknowledge_ph (s : State) (v : Word) : (s.acknowledge v).ph = s.ph := rfl
@[simp] theorem State.acknowledge_cnt (s : State) (v : Word) : (s.acknowledge v).cnt = s.cnt := rfl
@[simp] theorem State.acknowledge_cur (s : State) (v : Word) : (s.acknowledge v).cur = s.cur := rfl
@[simp] theorem State.acknowledge_host (s : State) (v : Word) : (s.acknowledge v).host = s.host := rfl
@[simp] theorem State.acknowledge_turns (s : State) (v : Word) : (s.acknowledge v).turns = s.turns := rfl
@[simp] theorem State.acknowledge_log (s : State) (v : Word) : (s.acknowledge v).log = s.log := rfl

@[simp] theorem State.clearDone_key (s : State) : (s.clearDone).key = s.key := rfl
@[simp] theorem State.clearDone_kw (s : State) : (s.clearDone).kw = s.kw := rfl
@[simp] theorem State.clearDone_kr (s : State) : (s.clearDone).kr = s.kr := rfl
@[simp] theorem State.clearDone_ek (s : State) : (s.clearDone).ek = s.ek := rfl
@[simp] theorem State.clearDone_dk (s : State) : (s.clearDone).dk = s.dk := rfl
@[simp] theorem State.clearDone_x (s : State) : (s.clearDone).x = s.x := rfl
@[simp] theorem State.clearDone_xw (s : State) : (s.clearDone).xw = s.xw := rfl
@[simp] theorem State.clearDone_opa (s : State) : (s.clearDone).opa = s.opa := rfl
@[simp] theorem State.clearDone_opb (s : State) : (s.clearDone).opb = s.opb := rfl
@[simp] theorem State.clearDone_res (s : State) : (s.clearDone).res = s.res := rfl
@[simp] theorem State.clearDone_done (s : State) : (s.clearDone).done = false := rfl
@[simp] theorem State.clearDone_kv (s : State) : (s.clearDone).kv = s.kv := rfl
@[simp] theorem State.clearDone_dv (s : State) : (s.clearDone).dv = s.dv := rfl
@[simp] theorem State.clearDone_err (s : State) : (s.clearDone).err = s.err := rfl
@[simp] theorem State.clearDone_ph (s : State) : (s.clearDone).ph = s.ph := rfl
@[simp] theorem State.clearDone_cnt (s : State) : (s.clearDone).cnt = s.cnt := rfl
@[simp] theorem State.clearDone_cur (s : State) : (s.clearDone).cur = s.cur := rfl
@[simp] theorem State.clearDone_host (s : State) : (s.clearDone).host = s.host := rfl
@[simp] theorem State.clearDone_turns (s : State) : (s.clearDone).turns = s.turns := rfl
@[simp] theorem State.clearDone_log (s : State) : (s.clearDone).log = s.log := rfl

@[simp] theorem State.accept_key (s : State) (i : Instr) : (s.accept i).key = s.key := rfl
@[simp] theorem State.accept_kw (s : State) (i : Instr) : (s.accept i).kw = s.kw := rfl
@[simp] theorem State.accept_kr (s : State) (i : Instr) : (s.accept i).kr = s.kr := rfl
@[simp] theorem State.accept_ek (s : State) (i : Instr) : (s.accept i).ek = s.ek := rfl
@[simp] theorem State.accept_dk (s : State) (i : Instr) : (s.accept i).dk = s.dk := rfl
@[simp] theorem State.accept_x (s : State) (i : Instr) : (s.accept i).x = s.x := rfl
@[simp] theorem State.accept_xw (s : State) (i : Instr) : (s.accept i).xw = s.xw := rfl
@[simp] theorem State.accept_opa (s : State) (i : Instr) : (s.accept i).opa = s.opa := rfl
@[simp] theorem State.accept_opb (s : State) (i : Instr) : (s.accept i).opb = s.opb := rfl
@[simp] theorem State.accept_res (s : State) (i : Instr) : (s.accept i).res = s.res := rfl
@[simp] theorem State.accept_done (s : State) (i : Instr) : (s.accept i).done = s.done := rfl
@[simp] theorem State.accept_kv (s : State) (i : Instr) : (s.accept i).kv = s.kv := rfl
@[simp] theorem State.accept_dv (s : State) (i : Instr) : (s.accept i).dv = s.dv := rfl
@[simp] theorem State.accept_err (s : State) (i : Instr) : (s.accept i).err = s.err := rfl
@[simp] theorem State.accept_ph (s : State) (i : Instr) : (s.accept i).ph = s.ph := rfl
@[simp] theorem State.accept_cnt (s : State) (i : Instr) : (s.accept i).cnt = s.cnt := rfl
@[simp] theorem State.accept_cur (s : State) (i : Instr) : (s.accept i).cur = i.opcode := rfl
@[simp] theorem State.accept_host (s : State) (i : Instr) : (s.accept i).host = s.host := rfl
@[simp] theorem State.accept_turns (s : State) (i : Instr) : (s.accept i).turns = s.turns := rfl
@[simp] theorem State.accept_log (s : State) (i : Instr) : (s.accept i).log = s.log := rfl

@[simp] theorem State.setRes_key (s : State) (v : Word) : (s.setRes v).key = s.key := rfl
@[simp] theorem State.setRes_kw (s : State) (v : Word) : (s.setRes v).kw = s.kw := rfl
@[simp] theorem State.setRes_kr (s : State) (v : Word) : (s.setRes v).kr = s.kr := rfl
@[simp] theorem State.setRes_ek (s : State) (v : Word) : (s.setRes v).ek = s.ek := rfl
@[simp] theorem State.setRes_dk (s : State) (v : Word) : (s.setRes v).dk = s.dk := rfl
@[simp] theorem State.setRes_x (s : State) (v : Word) : (s.setRes v).x = s.x := rfl
@[simp] theorem State.setRes_xw (s : State) (v : Word) : (s.setRes v).xw = s.xw := rfl
@[simp] theorem State.setRes_opa (s : State) (v : Word) : (s.setRes v).opa = s.opa := rfl
@[simp] theorem State.setRes_opb (s : State) (v : Word) : (s.setRes v).opb = s.opb := rfl
@[simp] theorem State.setRes_res (s : State) (v : Word) : (s.setRes v).res = v := rfl
@[simp] theorem State.setRes_done (s : State) (v : Word) : (s.setRes v).done = s.done := rfl
@[simp] theorem State.setRes_kv (s : State) (v : Word) : (s.setRes v).kv = s.kv := rfl
@[simp] theorem State.setRes_dv (s : State) (v : Word) : (s.setRes v).dv = s.dv := rfl
@[simp] theorem State.setRes_err (s : State) (v : Word) : (s.setRes v).err = s.err := rfl
@[simp] theorem State.setRes_ph (s : State) (v : Word) : (s.setRes v).ph = s.ph := rfl
@[simp] theorem State.setRes_cnt (s : State) (v : Word) : (s.setRes v).cnt = s.cnt := rfl
@[simp] theorem State.setRes_cur (s : State) (v : Word) : (s.setRes v).cur = s.cur := rfl
@[simp] theorem State.setRes_host (s : State) (v : Word) : (s.setRes v).host = s.host := rfl
@[simp] theorem State.setRes_turns (s : State) (v : Word) : (s.setRes v).turns = s.turns := rfl
@[simp] theorem State.setRes_log (s : State) (v : Word) : (s.setRes v).log = s.log := rfl

@[simp] theorem State.complete_key (s : State) : (s.complete).key = s.key := rfl
@[simp] theorem State.complete_kw (s : State) : (s.complete).kw = s.kw := rfl
@[simp] theorem State.complete_kr (s : State) : (s.complete).kr = s.kr := rfl
@[simp] theorem State.complete_ek (s : State) : (s.complete).ek = s.ek := rfl
@[simp] theorem State.complete_dk (s : State) : (s.complete).dk = s.dk := rfl
@[simp] theorem State.complete_x (s : State) : (s.complete).x = s.x := rfl
@[simp] theorem State.complete_xw (s : State) : (s.complete).xw = s.xw := rfl
@[simp] theorem State.complete_opa (s : State) : (s.complete).opa = s.opa := rfl
@[simp] theorem State.complete_opb (s : State) : (s.complete).opb = s.opb := rfl
@[simp] theorem State.complete_res (s : State) : (s.complete).res = s.res := rfl
@[simp] theorem State.complete_done (s : State) : (s.complete).done = true := rfl
@[simp] theorem State.complete_kv (s : State) : (s.complete).kv = s.kv := rfl
@[simp] theorem State.complete_dv (s : State) : (s.complete).dv = s.dv := rfl
@[simp] theorem State.complete_err (s : State) : (s.complete).err = s.err := rfl
@[simp] theorem State.complete_ph (s : State) : (s.complete).ph = .idle := rfl
@[simp] theorem State.complete_cnt (s : State) : (s.complete).cnt = 0#4 := rfl
@[simp] theorem State.complete_cur (s : State) : (s.complete).cur = s.cur := rfl
@[simp] theorem State.complete_host (s : State) : (s.complete).host = s.host := rfl
@[simp] theorem State.complete_turns (s : State) : (s.complete).turns = s.turns := rfl
@[simp] theorem State.complete_log (s : State) : (s.complete).log = s.log := rfl

@[simp] theorem State.startKse_key (s : State) : (s.startKse).key = s.key := rfl
@[simp] theorem State.startKse_kw (s : State) : (s.startKse).kw = s.kw := rfl
@[simp] theorem State.startKse_kr (s : State) : (s.startKse).kr = keyBits s.key := rfl
@[simp] theorem State.startKse_ek (s : State) : (s.startKse).ek = s.ek := rfl
@[simp] theorem State.startKse_dk (s : State) : (s.startKse).dk = s.dk := rfl
@[simp] theorem State.startKse_x (s : State) : (s.startKse).x = s.x := rfl
@[simp] theorem State.startKse_xw (s : State) : (s.startKse).xw = s.xw := rfl
@[simp] theorem State.startKse_opa (s : State) : (s.startKse).opa = s.opa := rfl
@[simp] theorem State.startKse_opb (s : State) : (s.startKse).opb = s.opb := rfl
@[simp] theorem State.startKse_res (s : State) : (s.startKse).res = s.res := rfl
@[simp] theorem State.startKse_done (s : State) : (s.startKse).done = s.done := rfl
@[simp] theorem State.startKse_kv (s : State) : (s.startKse).kv = false := rfl
@[simp] theorem State.startKse_dv (s : State) : (s.startKse).dv = false := rfl
@[simp] theorem State.startKse_err (s : State) : (s.startKse).err = s.err := rfl
@[simp] theorem State.startKse_ph (s : State) : (s.startKse).ph = .kse := rfl
@[simp] theorem State.startKse_cnt (s : State) : (s.startKse).cnt = 0#4 := rfl
@[simp] theorem State.startKse_cur (s : State) : (s.startKse).cur = s.cur := rfl
@[simp] theorem State.startKse_host (s : State) : (s.startKse).host = s.host := rfl
@[simp] theorem State.startKse_turns (s : State) : (s.startKse).turns = s.turns := rfl
@[simp] theorem State.startKse_log (s : State) : (s.startKse).log = s.log := rfl

@[simp] theorem State.startKsd_key (s : State) : (s.startKsd).key = s.key := rfl
@[simp] theorem State.startKsd_kw (s : State) : (s.startKsd).kw = s.kw := rfl
@[simp] theorem State.startKsd_kr (s : State) : (s.startKsd).kr = s.kr := rfl
@[simp] theorem State.startKsd_ek (s : State) : (s.startKsd).ek = s.ek := rfl
@[simp] theorem State.startKsd_dk (s : State) : (s.startKsd).dk = s.dk := rfl
@[simp] theorem State.startKsd_x (s : State) : (s.startKsd).x = s.x := rfl
@[simp] theorem State.startKsd_xw (s : State) : (s.startKsd).xw = s.xw := rfl
@[simp] theorem State.startKsd_opa (s : State) : (s.startKsd).opa = s.opa := rfl
@[simp] theorem State.startKsd_opb (s : State) : (s.startKsd).opb = s.opb := rfl
@[simp] theorem State.startKsd_res (s : State) : (s.startKsd).res = s.res := rfl
@[simp] theorem State.startKsd_done (s : State) : (s.startKsd).done = s.done := rfl
@[simp] theorem State.startKsd_kv (s : State) : (s.startKsd).kv = s.kv := rfl
@[simp] theorem State.startKsd_dv (s : State) : (s.startKsd).dv = false := rfl
@[simp] theorem State.startKsd_err (s : State) : (s.startKsd).err = s.err := rfl
@[simp] theorem State.startKsd_ph (s : State) : (s.startKsd).ph = .ksd := rfl
@[simp] theorem State.startKsd_cnt (s : State) : (s.startKsd).cnt = 0#4 := rfl
@[simp] theorem State.startKsd_cur (s : State) : (s.startKsd).cur = s.cur := rfl
@[simp] theorem State.startKsd_host (s : State) : (s.startKsd).host = s.host := rfl
@[simp] theorem State.startKsd_turns (s : State) : (s.startKsd).turns = s.turns := rfl
@[simp] theorem State.startKsd_log (s : State) : (s.startKsd).log = s.log := rfl

@[simp] theorem State.startRnd_key (s : State) : (s.startRnd).key = s.key := rfl
@[simp] theorem State.startRnd_kw (s : State) : (s.startRnd).kw = s.kw := rfl
@[simp] theorem State.startRnd_kr (s : State) : (s.startRnd).kr = s.kr := rfl
@[simp] theorem State.startRnd_ek (s : State) : (s.startRnd).ek = s.ek := rfl
@[simp] theorem State.startRnd_dk (s : State) : (s.startRnd).dk = s.dk := rfl
@[simp] theorem State.startRnd_x (s : State) : (s.startRnd).x = s.x := rfl
@[simp] theorem State.startRnd_xw (s : State) : (s.startRnd).xw = s.xw := rfl
@[simp] theorem State.startRnd_opa (s : State) : (s.startRnd).opa = s.opa := rfl
@[simp] theorem State.startRnd_opb (s : State) : (s.startRnd).opb = s.opb := rfl
@[simp] theorem State.startRnd_res (s : State) : (s.startRnd).res = s.res := rfl
@[simp] theorem State.startRnd_done (s : State) : (s.startRnd).done = s.done := rfl
@[simp] theorem State.startRnd_kv (s : State) : (s.startRnd).kv = s.kv := rfl
@[simp] theorem State.startRnd_dv (s : State) : (s.startRnd).dv = s.dv := rfl
@[simp] theorem State.startRnd_err (s : State) : (s.startRnd).err = s.err := rfl
@[simp] theorem State.startRnd_ph (s : State) : (s.startRnd).ph = .rnd := rfl
@[simp] theorem State.startRnd_cnt (s : State) : (s.startRnd).cnt = 0#4 := rfl
@[simp] theorem State.startRnd_cur (s : State) : (s.startRnd).cur = s.cur := rfl
@[simp] theorem State.startRnd_host (s : State) : (s.startRnd).host = s.host := rfl
@[simp] theorem State.startRnd_turns (s : State) : (s.startRnd).turns = s.turns := rfl
@[simp] theorem State.startRnd_log (s : State) : (s.startRnd).log = s.log := rfl

@[simp] theorem State.writeKey_key (s : State) (j : Fin 8) (v : Word) : (s.writeKey j v).key = s.key.set j v := rfl
@[simp] theorem State.writeKey_kw (s : State) (j : Fin 8) (v : Word) : (s.writeKey j v).kw = s.kw ||| (1#8 <<< j.val) := rfl
@[simp] theorem State.writeKey_kr (s : State) (j : Fin 8) (v : Word) : (s.writeKey j v).kr = s.kr := rfl
@[simp] theorem State.writeKey_ek (s : State) (j : Fin 8) (v : Word) : (s.writeKey j v).ek = s.ek := rfl
@[simp] theorem State.writeKey_dk (s : State) (j : Fin 8) (v : Word) : (s.writeKey j v).dk = s.dk := rfl
@[simp] theorem State.writeKey_x (s : State) (j : Fin 8) (v : Word) : (s.writeKey j v).x = s.x := rfl
@[simp] theorem State.writeKey_xw (s : State) (j : Fin 8) (v : Word) : (s.writeKey j v).xw = s.xw := rfl
@[simp] theorem State.writeKey_opa (s : State) (j : Fin 8) (v : Word) : (s.writeKey j v).opa = s.opa := rfl
@[simp] theorem State.writeKey_opb (s : State) (j : Fin 8) (v : Word) : (s.writeKey j v).opb = s.opb := rfl
@[simp] theorem State.writeKey_res (s : State) (j : Fin 8) (v : Word) : (s.writeKey j v).res = s.res := rfl
@[simp] theorem State.writeKey_done (s : State) (j : Fin 8) (v : Word) : (s.writeKey j v).done = s.done := rfl
@[simp] theorem State.writeKey_kv (s : State) (j : Fin 8) (v : Word) : (s.writeKey j v).kv = false := rfl
@[simp] theorem State.writeKey_dv (s : State) (j : Fin 8) (v : Word) : (s.writeKey j v).dv = false := rfl
@[simp] theorem State.writeKey_err (s : State) (j : Fin 8) (v : Word) : (s.writeKey j v).err = s.err := rfl
@[simp] theorem State.writeKey_ph (s : State) (j : Fin 8) (v : Word) : (s.writeKey j v).ph = s.ph := rfl
@[simp] theorem State.writeKey_cnt (s : State) (j : Fin 8) (v : Word) : (s.writeKey j v).cnt = s.cnt := rfl
@[simp] theorem State.writeKey_cur (s : State) (j : Fin 8) (v : Word) : (s.writeKey j v).cur = s.cur := rfl
@[simp] theorem State.writeKey_host (s : State) (j : Fin 8) (v : Word) : (s.writeKey j v).host = s.host := rfl
@[simp] theorem State.writeKey_turns (s : State) (j : Fin 8) (v : Word) : (s.writeKey j v).turns = s.turns := rfl
@[simp] theorem State.writeKey_log (s : State) (j : Fin 8) (v : Word) : (s.writeKey j v).log = s.log := rfl

@[simp] theorem State.writeX_key (s : State) (j : Fin 4) (v : Word) : (s.writeX j v).key = s.key := rfl
@[simp] theorem State.writeX_kw (s : State) (j : Fin 4) (v : Word) : (s.writeX j v).kw = s.kw := rfl
@[simp] theorem State.writeX_kr (s : State) (j : Fin 4) (v : Word) : (s.writeX j v).kr = s.kr := rfl
@[simp] theorem State.writeX_ek (s : State) (j : Fin 4) (v : Word) : (s.writeX j v).ek = s.ek := rfl
@[simp] theorem State.writeX_dk (s : State) (j : Fin 4) (v : Word) : (s.writeX j v).dk = s.dk := rfl
@[simp] theorem State.writeX_x (s : State) (j : Fin 4) (v : Word) : (s.writeX j v).x = blockSet s.x j v := rfl
@[simp] theorem State.writeX_xw (s : State) (j : Fin 4) (v : Word) : (s.writeX j v).xw = s.xw ||| (1#4 <<< j.val) := rfl
@[simp] theorem State.writeX_opa (s : State) (j : Fin 4) (v : Word) : (s.writeX j v).opa = s.opa := rfl
@[simp] theorem State.writeX_opb (s : State) (j : Fin 4) (v : Word) : (s.writeX j v).opb = s.opb := rfl
@[simp] theorem State.writeX_res (s : State) (j : Fin 4) (v : Word) : (s.writeX j v).res = s.res := rfl
@[simp] theorem State.writeX_done (s : State) (j : Fin 4) (v : Word) : (s.writeX j v).done = s.done := rfl
@[simp] theorem State.writeX_kv (s : State) (j : Fin 4) (v : Word) : (s.writeX j v).kv = s.kv := rfl
@[simp] theorem State.writeX_dv (s : State) (j : Fin 4) (v : Word) : (s.writeX j v).dv = s.dv := rfl
@[simp] theorem State.writeX_err (s : State) (j : Fin 4) (v : Word) : (s.writeX j v).err = s.err := rfl
@[simp] theorem State.writeX_ph (s : State) (j : Fin 4) (v : Word) : (s.writeX j v).ph = s.ph := rfl
@[simp] theorem State.writeX_cnt (s : State) (j : Fin 4) (v : Word) : (s.writeX j v).cnt = s.cnt := rfl
@[simp] theorem State.writeX_cur (s : State) (j : Fin 4) (v : Word) : (s.writeX j v).cur = s.cur := rfl
@[simp] theorem State.writeX_host (s : State) (j : Fin 4) (v : Word) : (s.writeX j v).host = s.host := rfl
@[simp] theorem State.writeX_turns (s : State) (j : Fin 4) (v : Word) : (s.writeX j v).turns = s.turns := rfl
@[simp] theorem State.writeX_log (s : State) (j : Fin 4) (v : Word) : (s.writeX j v).log = s.log := rfl

@[simp] theorem State.writeOpa_key (s : State) (v : Word) : (s.writeOpa v).key = s.key := rfl
@[simp] theorem State.writeOpa_kw (s : State) (v : Word) : (s.writeOpa v).kw = s.kw := rfl
@[simp] theorem State.writeOpa_kr (s : State) (v : Word) : (s.writeOpa v).kr = s.kr := rfl
@[simp] theorem State.writeOpa_ek (s : State) (v : Word) : (s.writeOpa v).ek = s.ek := rfl
@[simp] theorem State.writeOpa_dk (s : State) (v : Word) : (s.writeOpa v).dk = s.dk := rfl
@[simp] theorem State.writeOpa_x (s : State) (v : Word) : (s.writeOpa v).x = s.x := rfl
@[simp] theorem State.writeOpa_xw (s : State) (v : Word) : (s.writeOpa v).xw = s.xw := rfl
@[simp] theorem State.writeOpa_opa (s : State) (v : Word) : (s.writeOpa v).opa = v := rfl
@[simp] theorem State.writeOpa_opb (s : State) (v : Word) : (s.writeOpa v).opb = s.opb := rfl
@[simp] theorem State.writeOpa_res (s : State) (v : Word) : (s.writeOpa v).res = s.res := rfl
@[simp] theorem State.writeOpa_done (s : State) (v : Word) : (s.writeOpa v).done = s.done := rfl
@[simp] theorem State.writeOpa_kv (s : State) (v : Word) : (s.writeOpa v).kv = s.kv := rfl
@[simp] theorem State.writeOpa_dv (s : State) (v : Word) : (s.writeOpa v).dv = s.dv := rfl
@[simp] theorem State.writeOpa_err (s : State) (v : Word) : (s.writeOpa v).err = s.err := rfl
@[simp] theorem State.writeOpa_ph (s : State) (v : Word) : (s.writeOpa v).ph = s.ph := rfl
@[simp] theorem State.writeOpa_cnt (s : State) (v : Word) : (s.writeOpa v).cnt = s.cnt := rfl
@[simp] theorem State.writeOpa_cur (s : State) (v : Word) : (s.writeOpa v).cur = s.cur := rfl
@[simp] theorem State.writeOpa_host (s : State) (v : Word) : (s.writeOpa v).host = s.host := rfl
@[simp] theorem State.writeOpa_turns (s : State) (v : Word) : (s.writeOpa v).turns = s.turns := rfl
@[simp] theorem State.writeOpa_log (s : State) (v : Word) : (s.writeOpa v).log = s.log := rfl

@[simp] theorem State.writeOpb_key (s : State) (v : Word) : (s.writeOpb v).key = s.key := rfl
@[simp] theorem State.writeOpb_kw (s : State) (v : Word) : (s.writeOpb v).kw = s.kw := rfl
@[simp] theorem State.writeOpb_kr (s : State) (v : Word) : (s.writeOpb v).kr = s.kr := rfl
@[simp] theorem State.writeOpb_ek (s : State) (v : Word) : (s.writeOpb v).ek = s.ek := rfl
@[simp] theorem State.writeOpb_dk (s : State) (v : Word) : (s.writeOpb v).dk = s.dk := rfl
@[simp] theorem State.writeOpb_x (s : State) (v : Word) : (s.writeOpb v).x = s.x := rfl
@[simp] theorem State.writeOpb_xw (s : State) (v : Word) : (s.writeOpb v).xw = s.xw := rfl
@[simp] theorem State.writeOpb_opa (s : State) (v : Word) : (s.writeOpb v).opa = s.opa := rfl
@[simp] theorem State.writeOpb_opb (s : State) (v : Word) : (s.writeOpb v).opb = v := rfl
@[simp] theorem State.writeOpb_res (s : State) (v : Word) : (s.writeOpb v).res = s.res := rfl
@[simp] theorem State.writeOpb_done (s : State) (v : Word) : (s.writeOpb v).done = s.done := rfl
@[simp] theorem State.writeOpb_kv (s : State) (v : Word) : (s.writeOpb v).kv = s.kv := rfl
@[simp] theorem State.writeOpb_dv (s : State) (v : Word) : (s.writeOpb v).dv = s.dv := rfl
@[simp] theorem State.writeOpb_err (s : State) (v : Word) : (s.writeOpb v).err = s.err := rfl
@[simp] theorem State.writeOpb_ph (s : State) (v : Word) : (s.writeOpb v).ph = s.ph := rfl
@[simp] theorem State.writeOpb_cnt (s : State) (v : Word) : (s.writeOpb v).cnt = s.cnt := rfl
@[simp] theorem State.writeOpb_cur (s : State) (v : Word) : (s.writeOpb v).cur = s.cur := rfl
@[simp] theorem State.writeOpb_host (s : State) (v : Word) : (s.writeOpb v).host = s.host := rfl
@[simp] theorem State.writeOpb_turns (s : State) (v : Word) : (s.writeOpb v).turns = s.turns := rfl
@[simp] theorem State.writeOpb_log (s : State) (v : Word) : (s.writeOpb v).log = s.log := rfl

@[simp] theorem State.resetCore_key (s : State) : (s.resetCore).key = State.reset.key := rfl
@[simp] theorem State.resetCore_kw (s : State) : (s.resetCore).kw = State.reset.kw := rfl
@[simp] theorem State.resetCore_kr (s : State) : (s.resetCore).kr = State.reset.kr := rfl
@[simp] theorem State.resetCore_ek (s : State) : (s.resetCore).ek = State.reset.ek := rfl
@[simp] theorem State.resetCore_dk (s : State) : (s.resetCore).dk = State.reset.dk := rfl
@[simp] theorem State.resetCore_x (s : State) : (s.resetCore).x = State.reset.x := rfl
@[simp] theorem State.resetCore_xw (s : State) : (s.resetCore).xw = State.reset.xw := rfl
@[simp] theorem State.resetCore_opa (s : State) : (s.resetCore).opa = State.reset.opa := rfl
@[simp] theorem State.resetCore_opb (s : State) : (s.resetCore).opb = State.reset.opb := rfl
@[simp] theorem State.resetCore_res (s : State) : (s.resetCore).res = State.reset.res := rfl
@[simp] theorem State.resetCore_done (s : State) : (s.resetCore).done = State.reset.done := rfl
@[simp] theorem State.resetCore_kv (s : State) : (s.resetCore).kv = State.reset.kv := rfl
@[simp] theorem State.resetCore_dv (s : State) : (s.resetCore).dv = State.reset.dv := rfl
@[simp] theorem State.resetCore_err (s : State) : (s.resetCore).err = State.reset.err := rfl
@[simp] theorem State.resetCore_ph (s : State) : (s.resetCore).ph = State.reset.ph := rfl
@[simp] theorem State.resetCore_cnt (s : State) : (s.resetCore).cnt = State.reset.cnt := rfl
@[simp] theorem State.resetCore_cur (s : State) : (s.resetCore).cur = State.reset.cur := rfl
@[simp] theorem State.resetCore_host (s : State) : (s.resetCore).host = s.host := rfl
@[simp] theorem State.resetCore_turns (s : State) : (s.resetCore).turns = s.turns := rfl
@[simp] theorem State.resetCore_log (s : State) : (s.resetCore).log = s.log := rfl

@[simp] theorem State.kseData_key (s : State) : (s.kseData).key = s.key := rfl
@[simp] theorem State.kseData_kw (s : State) : (s.kseData).kw = s.kw := rfl
@[simp] theorem State.kseData_kr (s : State) : (s.kseData).kr = rotl128 s.kr Config.rot := rfl
@[simp] theorem State.kseData_ek (s : State) : (s.kseData).ek = kseWrite s.ek s.kr s.cnt.toNat := rfl
@[simp] theorem State.kseData_dk (s : State) : (s.kseData).dk = s.dk := rfl
@[simp] theorem State.kseData_x (s : State) : (s.kseData).x = s.x := rfl
@[simp] theorem State.kseData_xw (s : State) : (s.kseData).xw = s.xw := rfl
@[simp] theorem State.kseData_opa (s : State) : (s.kseData).opa = s.opa := rfl
@[simp] theorem State.kseData_opb (s : State) : (s.kseData).opb = s.opb := rfl
@[simp] theorem State.kseData_res (s : State) : (s.kseData).res = s.res := rfl
@[simp] theorem State.kseData_done (s : State) : (s.kseData).done = s.done := rfl
@[simp] theorem State.kseData_kv (s : State) : (s.kseData).kv = s.kv := rfl
@[simp] theorem State.kseData_dv (s : State) : (s.kseData).dv = s.dv := rfl
@[simp] theorem State.kseData_err (s : State) : (s.kseData).err = s.err := rfl
@[simp] theorem State.kseData_ph (s : State) : (s.kseData).ph = s.ph := rfl
@[simp] theorem State.kseData_cnt (s : State) : (s.kseData).cnt = s.cnt := rfl
@[simp] theorem State.kseData_cur (s : State) : (s.kseData).cur = s.cur := rfl
@[simp] theorem State.kseData_host (s : State) : (s.kseData).host = s.host := rfl
@[simp] theorem State.kseData_turns (s : State) : (s.kseData).turns = s.turns := rfl
@[simp] theorem State.kseData_log (s : State) : (s.kseData).log = s.log := rfl

@[simp] theorem State.ksdData_key (s : State) : (s.ksdData).key = s.key := rfl
@[simp] theorem State.ksdData_kw (s : State) : (s.ksdData).kw = s.kw := rfl
@[simp] theorem State.ksdData_kr (s : State) : (s.ksdData).kr = s.kr := rfl
@[simp] theorem State.ksdData_ek (s : State) : (s.ksdData).ek = s.ek := rfl
@[simp] theorem State.ksdData_dk (s : State) : (s.ksdData).dk = ksdWrite s.dk s.ek s.cnt.toNat := rfl
@[simp] theorem State.ksdData_x (s : State) : (s.ksdData).x = s.x := rfl
@[simp] theorem State.ksdData_xw (s : State) : (s.ksdData).xw = s.xw := rfl
@[simp] theorem State.ksdData_opa (s : State) : (s.ksdData).opa = s.opa := rfl
@[simp] theorem State.ksdData_opb (s : State) : (s.ksdData).opb = s.opb := rfl
@[simp] theorem State.ksdData_res (s : State) : (s.ksdData).res = s.res := rfl
@[simp] theorem State.ksdData_done (s : State) : (s.ksdData).done = s.done := rfl
@[simp] theorem State.ksdData_kv (s : State) : (s.ksdData).kv = s.kv := rfl
@[simp] theorem State.ksdData_dv (s : State) : (s.ksdData).dv = s.dv := rfl
@[simp] theorem State.ksdData_err (s : State) : (s.ksdData).err = s.err := rfl
@[simp] theorem State.ksdData_ph (s : State) : (s.ksdData).ph = s.ph := rfl
@[simp] theorem State.ksdData_cnt (s : State) : (s.ksdData).cnt = s.cnt := rfl
@[simp] theorem State.ksdData_cur (s : State) : (s.ksdData).cur = s.cur := rfl
@[simp] theorem State.ksdData_host (s : State) : (s.ksdData).host = s.host := rfl
@[simp] theorem State.ksdData_turns (s : State) : (s.ksdData).turns = s.turns := rfl
@[simp] theorem State.ksdData_log (s : State) : (s.ksdData).log = s.log := rfl

@[simp] theorem State.rndData_key (s : State) : (s.rndData).key = s.key := rfl
@[simp] theorem State.rndData_kw (s : State) : (s.rndData).kw = s.kw := rfl
@[simp] theorem State.rndData_kr (s : State) : (s.rndData).kr = s.kr := rfl
@[simp] theorem State.rndData_ek (s : State) : (s.rndData).ek = s.ek := rfl
@[simp] theorem State.rndData_dk (s : State) : (s.rndData).dk = s.dk := rfl
@[simp] theorem State.rndData_x (s : State) : (s.rndData).x = if s.cnt.toNat ≤ 7 then fullRound (selectedSubkeys s) s.cnt.toNat s.x else outT (selectedSubkeys s) s.x := rfl
@[simp] theorem State.rndData_xw (s : State) : (s.rndData).xw = s.xw := rfl
@[simp] theorem State.rndData_opa (s : State) : (s.rndData).opa = s.opa := rfl
@[simp] theorem State.rndData_opb (s : State) : (s.rndData).opb = s.opb := rfl
@[simp] theorem State.rndData_res (s : State) : (s.rndData).res = s.res := rfl
@[simp] theorem State.rndData_done (s : State) : (s.rndData).done = s.done := rfl
@[simp] theorem State.rndData_kv (s : State) : (s.rndData).kv = s.kv := rfl
@[simp] theorem State.rndData_dv (s : State) : (s.rndData).dv = s.dv := rfl
@[simp] theorem State.rndData_err (s : State) : (s.rndData).err = s.err := rfl
@[simp] theorem State.rndData_ph (s : State) : (s.rndData).ph = s.ph := rfl
@[simp] theorem State.rndData_cnt (s : State) : (s.rndData).cnt = s.cnt := rfl
@[simp] theorem State.rndData_cur (s : State) : (s.rndData).cur = s.cur := rfl
@[simp] theorem State.rndData_host (s : State) : (s.rndData).host = s.host := rfl
@[simp] theorem State.rndData_turns (s : State) : (s.rndData).turns = s.turns := rfl
@[simp] theorem State.rndData_log (s : State) : (s.rndData).log = s.log := rfl

@[simp] theorem State.setKv_key (s : State) : (s.setKv).key = s.key := rfl
@[simp] theorem State.setKv_kw (s : State) : (s.setKv).kw = s.kw := rfl
@[simp] theorem State.setKv_kr (s : State) : (s.setKv).kr = s.kr := rfl
@[simp] theorem State.setKv_ek (s : State) : (s.setKv).ek = s.ek := rfl
@[simp] theorem State.setKv_dk (s : State) : (s.setKv).dk = s.dk := rfl
@[simp] theorem State.setKv_x (s : State) : (s.setKv).x = s.x := rfl
@[simp] theorem State.setKv_xw (s : State) : (s.setKv).xw = s.xw := rfl
@[simp] theorem State.setKv_opa (s : State) : (s.setKv).opa = s.opa := rfl
@[simp] theorem State.setKv_opb (s : State) : (s.setKv).opb = s.opb := rfl
@[simp] theorem State.setKv_res (s : State) : (s.setKv).res = s.res := rfl
@[simp] theorem State.setKv_done (s : State) : (s.setKv).done = s.done := rfl
@[simp] theorem State.setKv_kv (s : State) : (s.setKv).kv = true := rfl
@[simp] theorem State.setKv_dv (s : State) : (s.setKv).dv = s.dv := rfl
@[simp] theorem State.setKv_err (s : State) : (s.setKv).err = s.err := rfl
@[simp] theorem State.setKv_ph (s : State) : (s.setKv).ph = s.ph := rfl
@[simp] theorem State.setKv_cnt (s : State) : (s.setKv).cnt = s.cnt := rfl
@[simp] theorem State.setKv_cur (s : State) : (s.setKv).cur = s.cur := rfl
@[simp] theorem State.setKv_host (s : State) : (s.setKv).host = s.host := rfl
@[simp] theorem State.setKv_turns (s : State) : (s.setKv).turns = s.turns := rfl
@[simp] theorem State.setKv_log (s : State) : (s.setKv).log = s.log := rfl

@[simp] theorem State.setDv_key (s : State) : (s.setDv).key = s.key := rfl
@[simp] theorem State.setDv_kw (s : State) : (s.setDv).kw = s.kw := rfl
@[simp] theorem State.setDv_kr (s : State) : (s.setDv).kr = s.kr := rfl
@[simp] theorem State.setDv_ek (s : State) : (s.setDv).ek = s.ek := rfl
@[simp] theorem State.setDv_dk (s : State) : (s.setDv).dk = s.dk := rfl
@[simp] theorem State.setDv_x (s : State) : (s.setDv).x = s.x := rfl
@[simp] theorem State.setDv_xw (s : State) : (s.setDv).xw = s.xw := rfl
@[simp] theorem State.setDv_opa (s : State) : (s.setDv).opa = s.opa := rfl
@[simp] theorem State.setDv_opb (s : State) : (s.setDv).opb = s.opb := rfl
@[simp] theorem State.setDv_res (s : State) : (s.setDv).res = s.res := rfl
@[simp] theorem State.setDv_done (s : State) : (s.setDv).done = s.done := rfl
@[simp] theorem State.setDv_kv (s : State) : (s.setDv).kv = s.kv := rfl
@[simp] theorem State.setDv_dv (s : State) : (s.setDv).dv = true := rfl
@[simp] theorem State.setDv_err (s : State) : (s.setDv).err = s.err := rfl
@[simp] theorem State.setDv_ph (s : State) : (s.setDv).ph = s.ph := rfl
@[simp] theorem State.setDv_cnt (s : State) : (s.setDv).cnt = s.cnt := rfl
@[simp] theorem State.setDv_cur (s : State) : (s.setDv).cur = s.cur := rfl
@[simp] theorem State.setDv_host (s : State) : (s.setDv).host = s.host := rfl
@[simp] theorem State.setDv_turns (s : State) : (s.setDv).turns = s.turns := rfl
@[simp] theorem State.setDv_log (s : State) : (s.setDv).log = s.log := rfl

@[simp] theorem State.count_key (s : State) : (s.count).key = s.key := rfl
@[simp] theorem State.count_kw (s : State) : (s.count).kw = s.kw := rfl
@[simp] theorem State.count_kr (s : State) : (s.count).kr = s.kr := rfl
@[simp] theorem State.count_ek (s : State) : (s.count).ek = s.ek := rfl
@[simp] theorem State.count_dk (s : State) : (s.count).dk = s.dk := rfl
@[simp] theorem State.count_x (s : State) : (s.count).x = s.x := rfl
@[simp] theorem State.count_xw (s : State) : (s.count).xw = s.xw := rfl
@[simp] theorem State.count_opa (s : State) : (s.count).opa = s.opa := rfl
@[simp] theorem State.count_opb (s : State) : (s.count).opb = s.opb := rfl
@[simp] theorem State.count_res (s : State) : (s.count).res = s.res := rfl
@[simp] theorem State.count_done (s : State) : (s.count).done = s.done := rfl
@[simp] theorem State.count_kv (s : State) : (s.count).kv = s.kv := rfl
@[simp] theorem State.count_dv (s : State) : (s.count).dv = s.dv := rfl
@[simp] theorem State.count_err (s : State) : (s.count).err = s.err := rfl
@[simp] theorem State.count_ph (s : State) : (s.count).ph = s.ph := rfl
@[simp] theorem State.count_cnt (s : State) : (s.count).cnt = s.cnt + 1#4 := rfl
@[simp] theorem State.count_cur (s : State) : (s.count).cur = s.cur := rfl
@[simp] theorem State.count_host (s : State) : (s.count).host = s.host := rfl
@[simp] theorem State.count_turns (s : State) : (s.count).turns = s.turns := rfl
@[simp] theorem State.count_log (s : State) : (s.count).log = s.log := rfl

@[simp] theorem State.raise_busy (s : State) (c : Cause) : (s.raise c).busy = s.busy := rfl
@[simp] theorem State.acknowledge_busy (s : State) (v : Word) : (s.acknowledge v).busy = s.busy := rfl
@[simp] theorem State.clearDone_busy (s : State) : (s.clearDone).busy = s.busy := rfl
@[simp] theorem State.accept_busy (s : State) (i : Instr) : (s.accept i).busy = s.busy := rfl
@[simp] theorem State.setRes_busy (s : State) (v : Word) : (s.setRes v).busy = s.busy := rfl
@[simp] theorem State.writeKey_busy (s : State) (j : Fin 8) (v : Word) : (s.writeKey j v).busy = s.busy := rfl
@[simp] theorem State.writeX_busy (s : State) (j : Fin 4) (v : Word) : (s.writeX j v).busy = s.busy := rfl
@[simp] theorem State.writeOpa_busy (s : State) (v : Word) : (s.writeOpa v).busy = s.busy := rfl
@[simp] theorem State.writeOpb_busy (s : State) (v : Word) : (s.writeOpb v).busy = s.busy := rfl
@[simp] theorem State.kseData_busy (s : State) : (s.kseData).busy = s.busy := rfl
@[simp] theorem State.ksdData_busy (s : State) : (s.ksdData).busy = s.busy := rfl
@[simp] theorem State.rndData_busy (s : State) : (s.rndData).busy = s.busy := rfl
@[simp] theorem State.setKv_busy (s : State) : (s.setKv).busy = s.busy := rfl
@[simp] theorem State.setDv_busy (s : State) : (s.setDv).busy = s.busy := rfl
@[simp] theorem State.count_busy (s : State) : (s.count).busy = s.busy := rfl

@[simp] theorem State.complete_busy (s : State) : s.complete.busy = false := rfl
@[simp] theorem State.startKse_busy (s : State) : s.startKse.busy = true := rfl
@[simp] theorem State.startKsd_busy (s : State) : s.startKsd.busy = true := rfl
@[simp] theorem State.startRnd_busy (s : State) : s.startRnd.busy = true := rfl
@[simp] theorem State.resetCore_busy (s : State) : s.resetCore.busy = false := rfl

/-- `BUSY` is 0 exactly in phase `IDLE` (10_state.md R33). -/
theorem busy_eq_false_iff (s : State) : s.busy = false ↔ s.ph = .idle := by
  simp [State.busy]

/-- `BUSY` is 1 exactly outside phase `IDLE` (10_state.md R33). -/
theorem busy_eq_true_iff (s : State) : s.busy = true ↔ s.ph ≠ .idle := by
  simp [State.busy]

end Sys2Proof.Machine
end

