-- ==== Sys2Proof/Laws/Ops.lean ====
section
/-! SUPPORT. What the shared operations can do, said once each. -/

namespace Sys2Proof.Machine

/-- Issuing a command always answers a next state: dropped while busy, refused by a check, or accepted (43_control.md R181). -/
theorem issue_cases {i : Instr} {check : State → Option Cause} {start : State → State} {s : State}
    {o : Host.Outcome State Fault Refusal} (h : issue i check start s = o) :
    (s.busy = true ∧ o = .next (s.raise .busy)) ∨
    (s.busy = false ∧ ∃ c, check s = some c ∧ o = .next (s.clearDone.raise c)) ∨
    (s.busy = false ∧ check s = none ∧ o = .next (start (s.clearDone.accept i))) := by
  subst h
  unfold issue
  cases hb : s.busy with
  | true => simp
  | false => cases hc : check s <;> simp

/-- Issuing while busy (20_memory.md R71). -/
theorem issue_busy {i : Instr} {check : State → Option Cause} {start : State → State} {s : State}
    (h : s.busy = true) : issue i check start s = .next (s.raise .busy) := by simp [issue, h]

/-- Issuing while idle when a check fails (43_control.md R181). -/
theorem issue_refused {i : Instr} {check : State → Option Cause} {start : State → State} {s : State} {c : Cause}
    (h : s.busy = false) (hc : check s = some c) :
    issue i check start s = .next (s.clearDone.raise c) := by simp [issue, h, hc]

/-- Issuing while idle when every check passes (43_control.md R181). -/
theorem issue_accepted {i : Instr} {check : State → Option Cause} {start : State → State} {s : State}
    (h : s.busy = false) (hc : check s = none) :
    issue i check start s = .next (start (s.clearDone.accept i)) := by simp [issue, h, hc]

/-- The checks read only `KW`, `XW`, `KV` and `DV`, and the first that fails is the one recorded (60_exceptions.md R198). -/
theorem firstOf_eq_none_iff (p q : State → Option Cause) (s : State) :
    firstOf p q s = none ↔ p s = none ∧ q s = none := by simp [firstOf, Option.or_eq_none_iff]

/-- `KW` is 0xFF exactly when the key check passes. -/
theorem needKey_eq_none_iff (s : State) : needKey s = none ↔ s.kw = 0xFF#8 := by
  simp [needKey, keyComplete]

/-- `XW` is 0xF exactly when the block check passes. -/
theorem needBlock_eq_none_iff (s : State) : needBlock s = none ↔ s.xw = 0xF#4 := by
  simp [needBlock, blockComplete]

/-- `KV` is 1 exactly when the check on `EK` passes. -/
theorem needEk_eq_none_iff (s : State) : needEk s = none ↔ s.kv = true := by
  cases h : s.kv <;> simp [needEk, h]

/-- `DV` is 1 exactly when the check on `DK` passes. -/
theorem needDk_eq_none_iff (s : State) : needDk s = none ↔ s.dv = true := by
  cases h : s.dv <;> simp [needDk, h]

end Sys2Proof.Machine
end

