-- ==== Sys2Proof/Laws/Bus.lean ====
section
/-! SUPPORT. The register map and what a host access can do. -/

namespace Sys2Proof.Machine

/-- The address of a register names that register (20_memory.md R51). -/
theorem regOfAddr_addrOfReg (r : Reg) : regOfAddr (addrOfReg r) = some r := by
  cases r with
  | key j => revert j; decide
  | x j => revert j; decide
  | kr j => revert j; decide
  | ek i => revert i; decide
  | dk i => revert i; decide
  | _ => rfl

/-- A register is at the address that names it (20_memory.md R51). -/
theorem addrOfReg_of_regOfAddr {a : Addr} {r : Reg} (h : regOfAddr a = some r) : addrOfReg r = a := by
  have all : ∀ n : Fin 256, (regOfAddr (BitVec.ofFin n)).all (fun r => addrOfReg r == BitVec.ofFin n) = true := by
    decide +kernel
  have := all a.toFin
  simpa [h] using this

/-- No two registers share an address (10_state.md R40). -/
theorem addrOfReg_injective : Function.Injective addrOfReg := fun a b h => by
  have := congrArg regOfAddr h
  simpa [regOfAddr_addrOfReg] using this

/-- Reading a register through its address (20_memory.md R52). -/
theorem readValue_addrOfReg (s : State) (r : Reg) : readValue s (addrOfReg r) = readReg s r := by
  simp [readValue, regOfAddr_addrOfReg]

/-- A mapped read changes no state (20_memory.md R52). -/
theorem readState_addrOfReg (s : State) (r : Reg) : readState s (addrOfReg r) = s := by
  simp [readState, regOfAddr_addrOfReg]

/-- A read leaves the state alone or raises `E_ADDR` (20_memory.md R52). -/
theorem readState_cases (s : State) (a : Addr) :
    ((∃ r, regOfAddr a = some r) ∧ readState s a = s) ∨
    (regOfAddr a = none ∧ readState s a = s.raise .addr) := by
  unfold readState
  cases h : regOfAddr a <;> simp

/-- Every command answers a next state: it never stops the machine (60_exceptions.md R190). -/
theorem exec_answers (i : Instr) (s : State) : ∃ t, exec i s = .next t := by
  cases i <;>
    simp only [exec, execNop, execXor, execAdd, execAddinv, execMul, execMulinv, execEkgen, execDkgen, execXformE,
      execXformD, execEncrypt, execDecrypt, primitive] <;>
    (rcases issue_cases rfl with ⟨_, h⟩ | ⟨_, _, _, h⟩ | ⟨_, _, h⟩ <;> exact ⟨_, h⟩)

/-- What a host write can do (20_memory.md R53): acknowledge errors, be refused with `E_ADDR` or `E_BUSY`, or, while idle, write
a register or issue a command word. -/
theorem hostWrite_cases {s : State} {a : Addr} {v : Word} {o : Host.Outcome State Fault Refusal}
    (h : hostWrite s a v = o) :
    (a = addrOfReg .status ∧ o = .next (s.acknowledge v)) ∨
    (a ≠ addrOfReg .status ∧ (∀ r, regOfAddr a = some r → regReadOnly r = true) ∧ o = .next (s.raise .addr)) ∨
    (s.busy = true ∧ o = .next (s.raise .busy)) ∨
    (s.busy = false ∧ ∃ j, regOfAddr a = some (.key j) ∧ o = .next (s.writeKey j v)) ∨
    (s.busy = false ∧ ∃ j, regOfAddr a = some (.x j) ∧ o = .next (s.writeX j v)) ∨
    (s.busy = false ∧ regOfAddr a = some .opa ∧ o = .next (s.writeOpa v)) ∨
    (s.busy = false ∧ regOfAddr a = some .opb ∧ o = .next (s.writeOpb v)) ∨
    (s.busy = false ∧ regOfAddr a = some .cmd ∧ o = acceptWord s v) := by
  subst h
  unfold hostWrite
  by_cases ha : a = addrOfReg .status
  · simp [ha]
  · rw [if_neg ha]
    cases hr : regOfAddr a with
    | none => simp [ha]
    | some r =>
      have hns : r ≠ .status := fun e => ha (by rw [← addrOfReg_of_regOfAddr hr, e])
      cases hb : s.busy <;> cases r <;> simp [regReadOnly, writeReg, ha] at hns ⊢

/-- What a word written to CMD while idle can do (43_control.md R181). -/
theorem acceptWord_cases {s : State} {w : Word} {o : Host.Outcome State Fault Refusal} (h : acceptWord s w = o) :
    (∃ i, decode w = .ok i ∧ o = exec i s) ∨
    (∃ r, decode w = .illegal r ∧ o = .next (s.clearDone.raise .illcmd)) := by
  subst h
  unfold acceptWord
  cases hd : decode w <;> simp

/-- Every host write answers a next state (60_exceptions.md R190). -/
theorem hostWrite_answers (s : State) (a : Addr) (v : Word) : ∃ t, hostWrite s a v = .next t := by
  rcases hostWrite_cases (s := s) (a := a) (v := v) rfl with
    ⟨_, h⟩ | ⟨_, _, h⟩ | ⟨_, h⟩ | ⟨_, _, _, h⟩ | ⟨_, _, _, h⟩ | ⟨_, _, h⟩ | ⟨_, _, h⟩ | ⟨_, _, h⟩
  all_goals first | exact ⟨_, h⟩ | skip
  rcases acceptWord_cases (s := s) (w := v) rfl with ⟨i, _, hi⟩ | ⟨_, _, hi⟩
  · obtain ⟨t, ht⟩ := exec_answers i s
    exact ⟨t, by rw [h, hi, ht]⟩
  · exact ⟨_, h.trans hi⟩

end Sys2Proof.Machine
end

