-- ==== Sys2Proof/Laws/Agents.lean ====
section
/-! SUPPORT. What a core step, a host line and a step of the machine can do. -/

namespace Sys2Proof.Machine

/-- The end of phase `KSE`, by the command in progress (43_control.md R182). -/
theorem endKse_cases {s t : State} (h : endKse s = .next t) :
    (s.cur = 0x6#4 ∧ t = s.complete) ∨ (s.cur = 0xA#4 ∧ t = s.startRnd) ∨ (s.cur = 0xB#4 ∧ t = s.startKsd) := by
  unfold endKse at h
  split_ifs at h with h1 h2 h3 <;> cases h
  · exact .inl ⟨h1, rfl⟩
  · exact .inr (.inl ⟨h2, rfl⟩)
  · exact .inr (.inr ⟨h3, rfl⟩)

/-- The end of phase `KSD`, by the command in progress (43_control.md R182). -/
theorem endKsd_cases {s t : State} (h : endKsd s = .next t) :
    (s.cur = 0x7#4 ∧ t = s.complete) ∨ (s.cur = 0xB#4 ∧ t = s.startRnd) := by
  unfold endKsd at h
  split_ifs at h with h1 h2 <;> cases h
  · exact .inl ⟨h1, rfl⟩
  · exact .inr ⟨h2, rfl⟩

/-- What a core step can do when it answers a next state (43_control.md R182): go on inside a phase, or end a phase and complete or
start the next one. -/
theorem coreStep_cases {s t : State} (h : coreStep s = .next t) :
    (s.ph = .kse ∧ s.cnt.toNat < 6 ∧ t = s.kseData.count) ∨
    (s.ph = .kse ∧ s.cnt.toNat = 6 ∧ s.cur = 0x6#4 ∧ t = s.kseData.setKv.complete) ∨
    (s.ph = .kse ∧ s.cnt.toNat = 6 ∧ s.cur = 0xA#4 ∧ t = s.kseData.setKv.startRnd) ∨
    (s.ph = .kse ∧ s.cnt.toNat = 6 ∧ s.cur = 0xB#4 ∧ t = s.kseData.setKv.startKsd) ∨
    (s.ph = .ksd ∧ s.cnt.toNat < 8 ∧ t = s.ksdData.count) ∨
    (s.ph = .ksd ∧ s.cnt.toNat = 8 ∧ s.cur = 0x7#4 ∧ t = s.ksdData.setDv.complete) ∨
    (s.ph = .ksd ∧ s.cnt.toNat = 8 ∧ s.cur = 0xB#4 ∧ t = s.ksdData.setDv.startRnd) ∨
    (s.ph = .rnd ∧ s.cnt.toNat < 8 ∧ t = s.rndData.count) ∨
    (s.ph = .rnd ∧ s.cnt.toNat = 8 ∧ t = s.rndData.complete) := by
  unfold coreStep at h
  cases hp : s.ph with
  | idle => simp [hp] at h
  | kse =>
    simp only [hp, kseStep] at h
    split_ifs at h with h1 h2
    · cases h; simp [h1]
    · rcases endKse_cases h with ⟨hc, rfl⟩ | ⟨hc, rfl⟩ | ⟨hc, rfl⟩ <;> simp at hc <;> simp [h2, hc]
  | ksd =>
    simp only [hp, ksdStep] at h
    split_ifs at h with h1 h2
    · cases h; simp [h1]
    · rcases endKsd_cases h with ⟨hc, rfl⟩ | ⟨hc, rfl⟩ <;> simp at hc <;> simp [h2, hc]
  | rnd =>
    simp only [hp, rndStep] at h
    split_ifs at h with h1 h2 <;> cases h
    · simp [h1]
    · simp [h2]

/-- Taking a turn changes nothing but the list of turns. -/
theorem takeTurn_eq (s : State) : ∃ ts, s.takeTurn = { s with turns := ts } := by
  unfold State.takeTurn
  split
  · exact ⟨_, rfl⟩
  · exact ⟨s.turns, rfl⟩

/-- While idle no turn is used up. -/
theorem takeTurn_idle {s : State} (h : s.busy = false) : s.takeTurn = s := by
  simp [State.takeTurn, State.contended, h]

/-- What a step of the machine is: quiescence, a host line, or a core step. -/
theorem step_cases {s : State} {o : Host.Outcome State Fault Refusal} (h : step s = o) :
    (s.busy = false ∧ s.host = [] ∧ o = .next s) ∨
    (∃ l rest ts, s.host = l :: rest ∧ mover s = some .host ∧
      o = performLine l { s with host := rest, turns := ts }) ∨
    (∃ ts, s.busy = true ∧ mover s = some .core ∧ o = coreStep { s with turns := ts }) := by
  subst h
  unfold step transition
  obtain ⟨ts, hts⟩ := takeTurn_eq s
  cases hm : mover s with
  | none =>
    left
    unfold mover at hm
    cases hb : s.busy <;> cases hh : s.host <;> simp_all
  | some a =>
    cases a with
    | host =>
      right; left
      cases hh : s.host with
      | nil =>
        exfalso
        unfold mover at hm
        cases hb : s.busy <;> simp_all
      | cons l rest => exact ⟨l, rest, ts, rfl, rfl, by simp [hostMove, hts, hh]⟩
    | core =>
      right; right
      refine ⟨ts, ?_, rfl, by simp [hts]⟩
      unfold mover at hm
      cases hb : s.busy
      · cases hh : s.host <;> simp_all
      · rfl

/-- While idle a step is the host's next line (30_encoding.md R86). -/
theorem step_line_idle {s : State} {l : HostLine} {rest : List HostLine} (hb : s.busy = false) (hh : s.host = l :: rest) :
    step s = performLine l { s with host := rest } := by
  simp [step, transition, mover, hb, hh, State.takeTurn, State.contended, hostMove]

/-- While busy, with the turn the host's, a step is the host's next line and uses the turn (20_memory.md R67). -/
theorem step_line_busy {s : State} {l : HostLine} {rest : List HostLine} {ts : List Agent} (hb : s.busy = true)
    (hh : s.host = l :: rest) (ht : s.turns = .host :: ts) :
    step s = performLine l { s with host := rest, turns := ts } := by
  simp [step, transition, mover, hb, hh, ht, State.takeTurn, State.contended, hostMove]

/-- A host line never stops the machine (60_exceptions.md R190). -/
theorem performLine_answers (l : HostLine) (s : State) : ∃ t, performLine l s = .next t := by
  cases l with
  | rst => exact ⟨s.resetCore, rfl⟩
  | wr a v => exact hostWrite_answers s a v
  | rd a => exact ⟨{ readState s a with log := s.log ++ [(a, readValue s a)] }, rfl⟩
  | wait =>
    simp only [performLine]
    split <;> simp

/-- A run of no step. -/
theorem run_zero (s : State) : Host.Core.run Sys2Proof.core 0 s = .next s := rfl

/-- A run peels off its first step. -/
theorem run_next {n : Nat} {s t : State} (h : step s = .next t) :
    Host.Core.run Sys2Proof.core (n + 1) s = Host.Core.run Sys2Proof.core n t := by
  have h' : Sys2Proof.core.step s = .next t := h
  simp only [Host.Core.run, h']

/-- A run whose first step stops, stops there. -/
theorem run_fault {n : Nat} {s : State} {f : Fault} (h : step s = .fault f) :
    Host.Core.run Sys2Proof.core (n + 1) s = .fault f := by
  have h' : Sys2Proof.core.step s = .fault f := h
  simp only [Host.Core.run, h']

/-- No step is refused: every command has its meaning. -/
theorem step_ne_refused (s : State) (r : Refusal) : step s ≠ .refused r := by
  intro h
  rcases step_cases h with ⟨_, _, h⟩ | ⟨l, rest, ts, _, _, h⟩ | ⟨ts, _, _, h⟩
  · cases h
  · obtain ⟨t, ht⟩ := performLine_answers l { s with host := rest, turns := ts }
    rw [ht] at h
    cases h
  · revert h
    unfold coreStep kseStep ksdStep rndStep endKse endKsd
    generalize ({ s with turns := ts } : State) = u
    cases u.ph <;> simp only <;> (try split_ifs) <;> simp

end Sys2Proof.Machine
end

