-- ==== Sys2Proof/Laws/Arith.lean ====
section
/-! SUPPORT. What the arithmetic primitives are: the additive ones are the ring operations of 16-bit words, the multiplicative ones
are the units modulo the prime 65537 under the reading of words as 1..65536. -/

namespace Sys2Proof.Machine

/-- 65537 "is prime" (00_scope.md R5). -/
theorem modMulModulus_prime : Nat.Prime Config.modMulModulus := by norm_num [Config.modMulModulus]

/-- `modAdd` is the sum of 16-bit words. -/
theorem modAdd_eq_add (a b : Word) : modAdd a b = a + b := by
  apply BitVec.eq_of_toNat_eq
  simp [modAdd, Config.modAddModulus, BitVec.toNat_add]

/-- `modAddInverse` is the negation of a 16-bit word. -/
theorem modAddInverse_eq_neg (a : Word) : modAddInverse a = -a := by
  apply BitVec.eq_of_toNat_eq
  simp [modAddInverse, Config.modAddModulus, BitVec.toNat_neg]

/-- A word stands for a number of at least 1. -/
theorem toGroup_pos (a : Word) : 1 ≤ toGroup a := by
  unfold toGroup; split <;> omega

/-- A word stands for a number of at most 65536. -/
theorem toGroup_le (a : Word) : toGroup a ≤ 65536 := by
  have := a.isLt
  unfold toGroup; split <;> omega

/-- Reading and writing the zero convention undo each other, on words. -/
theorem ofGroup_toGroup (a : Word) : ofGroup (toGroup a) = a := by
  have := a.isLt
  apply BitVec.eq_of_toNat_eq
  unfold ofGroup toGroup
  split <;> split <;> simp_all

/-- Reading and writing the zero convention undo each other, on 1..65536. -/
theorem toGroup_ofGroup (p : Nat) (h1 : 1 ≤ p) (h2 : p ≤ 65536) : toGroup (ofGroup p) = p := by
  unfold ofGroup toGroup
  by_cases h : p = 65536
  · simp [h]
  · have h' : p % 65536 = p := Nat.mod_eq_of_lt (by omega)
    simp [h, h']
    omega

/-- The reading of words as group elements loses nothing. -/
theorem toGroup_injective : Function.Injective toGroup :=
  Function.LeftInverse.injective ofGroup_toGroup

/-- 65537 divides the reading of no word. -/
theorem not_dvd_toGroup (a : Word) : ¬ Config.modMulModulus ∣ toGroup a := by
  intro h
  have := Nat.le_of_dvd (toGroup_pos a) h
  have := toGroup_le a
  simp only [Config.modMulModulus] at *
  omega

/-- The product `p` of R104 "is never 0". -/
theorem toGroup_mul_mod_pos (a b : Word) : 1 ≤ toGroup a * toGroup b % Config.modMulModulus := by
  rcases Nat.eq_zero_or_pos (toGroup a * toGroup b % Config.modMulModulus) with h | h
  · rcases (Nat.Prime.dvd_mul modMulModulus_prime).1 (Nat.dvd_of_mod_eq_zero h) with h | h
    · exact absurd h (not_dvd_toGroup a)
    · exact absurd h (not_dvd_toGroup b)
  · exact h

/-- `modMul` multiplies the readings modulo 65537. -/
theorem toGroup_modMul (a b : Word) :
    toGroup (modMul a b) = toGroup a * toGroup b % Config.modMulModulus := by
  refine toGroup_ofGroup _ (toGroup_mul_mod_pos a b) ?_
  have := Nat.mod_lt (toGroup a * toGroup b) (show 0 < Config.modMulModulus by decide)
  simp only [Config.modMulModulus] at *
  omega

/-- The loop computes a power, `a ^ (2 ^ k - 1)` modulo 65537. -/
theorem powLoop_eq (a k : Nat) : powLoop a k = a ^ (2 ^ k - 1) % Config.modMulModulus := by
  induction k with
  | zero => simp [powLoop, Config.modMulModulus]
  | succ k ih =>
    have e : 2 ^ (k + 1) - 1 = (2 ^ k - 1) + (2 ^ k - 1) + 1 := by
      have := Nat.one_le_two_pow (n := k)
      rw [pow_succ]; omega
    rw [powLoop, squareMul, ih, e, pow_succ, pow_add]
    simp [Nat.mul_mod]

end Sys2Proof.Machine
end

