-- ==== Sys2Proof/Laws/PerInstr.lean ====
section
/-! SUPPORT. The per-instruction family of the encoding: the word of a command passes both checks of 30_encoding.md R83. -/

namespace Sys2Proof.Laws.EncodedWord

/-- The encoded word of a command is a well-formed command word whose `OP` field is the command's opcode. -/
def Statement (i : Instr) : Prop := (encode i).wellFormed = true ∧ (encode i).opField = i.opcode

theorem nop : Statement .nop := by unfold Statement; decide
theorem xor : Statement .xor := by unfold Statement; decide
theorem add : Statement .add := by unfold Statement; decide
theorem addinv : Statement .addinv := by unfold Statement; decide
theorem mul : Statement .mul := by unfold Statement; decide
theorem mulinv : Statement .mulinv := by unfold Statement; decide
theorem ekgen : Statement .ekgen := by unfold Statement; decide
theorem dkgen : Statement .dkgen := by unfold Statement; decide
theorem xformE : Statement .xformE := by unfold Statement; decide
theorem xformD : Statement .xformD := by unfold Statement; decide
theorem encrypt : Statement .encrypt := by unfold Statement; decide
theorem decrypt : Statement .decrypt := by unfold Statement; decide

end Sys2Proof.Laws.EncodedWord
end

