-- ==== Sys2Proof/Laws/Schedule.lean ====
section
/-! SUPPORT. What the subkey stores hold after a write of a core step, word by word. -/

namespace Sys2Proof.Machine

/-- An index a rule produces reads the cell it names (20_memory.md R66). -/
theorem subkey_eq (S : Subkeys) (i : Nat) (h : i < 52) : subkey S i = S[i] := by simp [subkey, h]

/-- A core step of `KSE` with `CNT = n` writes exactly the words `8n .. 8n+7` (41_key_scheduler.md R137). -/
theorem kseWrite_getElem (E : Subkeys) (K : Key128) (n i : Nat) (h : i < 52) :
    (kseWrite E K n)[i] = if i / 8 = n then seg K (i % 8) else E[i] := by simp [kseWrite]

/-- A core step of `KSD` with `CNT = i` writes exactly the words of group `i` (41_key_scheduler.md R140). -/
theorem ksdWrite_getElem (D E : Subkeys) (i k : Nat) (h : k < 52) :
    (ksdWrite D E i)[k] = if k / 6 = i then dkWord E k else D[k] := by simp [ksdWrite]

/-- The decryption schedule, word by word (41_key_scheduler.md R134). -/
theorem generateDecryptionSubkeys_getElem (E : Subkeys) (k : Nat) (h : k < 52) :
    (generateDecryptionSubkeys E)[k] = dkWord E k := by simp [generateDecryptionSubkeys]

/-- Word `n*8 + j` of the loop's list is segment `j` of the key after `n` turns (41_key_scheduler.md R131). -/
theorem ekLoop_getElem? (m : Nat) (K : Key128) (n j : Nat) (hn : n < m) (hj : j < 8) :
    (ekLoop m K)[8 * n + j]? = some (seg ((fun c => rotl128 c Config.rot)^[n] K) j) := by
  induction m generalizing K n with
  | zero => omega
  | succ m ih =>
    have hl : (segments K).length = 8 := by simp [segments]
    cases n with
    | zero => simp [ekLoop, List.getElem?_append, hj, segments]
    | succ n =>
      have e : 8 * (n + 1) + j - 8 = 8 * n + j := by omega
      have : ¬ 8 * (n + 1) + j < 8 := by omega
      rw [ekLoop, List.getElem?_append, hl, if_neg this, e, ih _ _ (by omega), Function.iterate_succ_apply]

/-- The encryption schedule, word by word, before the rotations are summed (41_key_scheduler.md R131). -/
theorem generateEncryptionSubkeys_getElem (K : Key128) (i : Nat) (h : i < 52) :
    (generateEncryptionSubkeys K)[i] = seg ((fun c => rotl128 c Config.rot)^[i / 8] K) (i % 8) := by
  have hl := ekLoop_getElem? Config.ksIter K (i / 8) (i % 8) (by simp only [Config.ksIter]; omega) (Nat.mod_lt _ (by decide))
  have e : 8 * (i / 8) + i % 8 = i := Nat.div_add_mod i 8
  rw [e] at hl
  obtain ⟨hi, hv⟩ := List.getElem?_eq_some_iff.1 hl
  simp [generateEncryptionSubkeys, hv]

end Sys2Proof.Machine
end

