-- ==== Sys2Proof/Tests/Slice0.lean ====
section
/-! SUPPORT. The model's own tests, with expected values from 95_test_vectors.md, and for every statement with hypotheses a state and
operands that meet them. -/

namespace Sys2Proof.Tests

open Sys2Proof Sys2Proof.Machine

/-! ### Helpers -/

/-- The next state, where there is one. -/
def nextOf (o : Host.Outcome State Fault Refusal) : Option State :=
  match o with
  | .next s => some s
  | .fault _ => none
  | .refused _ => none

/-- The word the host reads at an address in the next state. -/
def readAfter (o : Host.Outcome State Fault Refusal) (a : Addr) : Option Word := (nextOf o).map fun s => readValue s a

/-- The four words of `X` in the next state. -/
def blockAfter (o : Host.Outcome State Fault Refusal) : Option (List Word) :=
  (nextOf o).map fun s => [s.x.x0, s.x.x1, s.x.x2, s.x.x3]

/-- The answer is a next state, another one than `s` in the field `f`. -/
def changes {α : Type} [DecidableEq α] (f : State → α) (s : State) (o : Host.Outcome State Fault Refusal) : Bool :=
  match nextOf o with
  | some t => f t != f s
  | none => false

/-- The key `K1` of 95_test_vectors.md. -/
def keyK1 : Vector Word 8 := #v[1#16, 2#16, 3#16, 4#16, 5#16, 6#16, 7#16, 8#16]

/-- After reset, with the two operands written. -/
def operands (a b : Word) : State := { State.reset with opa := a, opb := b }

/-- After reset, with the key `K1` and a block loaded. -/
def loaded (x0 x1 x2 x3 : Word) : State :=
  { State.reset with key := keyK1, kw := 0xFF#8, x := { x0 := x0, x1 := x1, x2 := x2, x3 := x3 }, xw := 0xF#4 }

/-- The same with both schedules made. -/
def scheduled (x0 x1 x2 x3 : Word) : State :=
  { loaded x0 x1 x2 x3 with
    ek := generateEncryptionSubkeys (keyBits keyK1)
    dk := generateDecryptionSubkeys (generateEncryptionSubkeys (keyBits keyK1)), kv := true, dv := true }

/-- After reset, with an all-zero key written whole, a zero block written, and both (all-zero, V14) schedules valid. -/
def zeroKeyed : State := { State.reset with kw := 0xFF#8, xw := 0xF#4, kv := true, dv := true }

/-- EKGEN just accepted on the all-zero key. -/
def zeroBusy : State := { State.reset with kw := 0xFF#8, ph := .kse, cur := 0x6#4 }

/-- A state in a given row of the sequencer, on the all-zero key. -/
def inRow (ph : Phase) (cnt cur : BitVec 4) : State := { zeroKeyed with ph := ph, cnt := cnt, cur := cur }

/-! ### Well-formedness: one ill-formed word for each check of 30_encoding.md R83 -/

theorem test_zero_field_set_is_ill_formed : Word.wellFormed 0x0010#16 = false := by decide

theorem test_reserved_opcode_is_ill_formed : Word.wellFormed 0x000C#16 = false := by decide

theorem test_words_of_both_kinds_are_well_formed : Word.wellFormed 0x0000#16 = true ∧ Word.wellFormed 0x000B#16 = true := by decide

/-! ### Decoding: the words of 30_encoding.md R81, bit by bit -/

theorem test_decode_nop : decode 0b0000000000000000#16 = .ok .nop := by decide

theorem test_decode_xor : decode 0b0000000000000001#16 = .ok .xor := by decide

theorem test_decode_add : decode 0b0000000000000010#16 = .ok .add := by decide

theorem test_decode_addinv : decode 0b0000000000000011#16 = .ok .addinv := by decide

theorem test_decode_mul : decode 0b0000000000000100#16 = .ok .mul := by decide

theorem test_decode_mulinv : decode 0b0000000000000101#16 = .ok .mulinv := by decide

theorem test_decode_ekgen : decode 0b0000000000000110#16 = .ok .ekgen := by decide

theorem test_decode_dkgen : decode 0b0000000000000111#16 = .ok .dkgen := by decide

theorem test_decode_xformE : decode 0b0000000000001000#16 = .ok .xformE := by decide

theorem test_decode_xformD : decode 0b0000000000001001#16 = .ok .xformD := by decide

theorem test_decode_encrypt : decode 0b0000000000001010#16 = .ok .encrypt := by decide

theorem test_decode_decrypt : decode 0b0000000000001011#16 = .ok .decrypt := by decide

/-- The illegal words of V41. -/
theorem test_decode_refuses_by_name :
    decode 0x000C#16 = .illegal .reservedOpcode ∧ decode 0x000F#16 = .illegal .reservedOpcode ∧
    decode 0x0010#16 = .illegal .zeroFieldSet ∧ decode 0x8001#16 = .illegal .zeroFieldSet ∧
    decode 0xFFFF#16 = .illegal .zeroFieldSet := by decide

theorem test_table_word : decodeTableWord 16 0x000B = some .decrypt ∧ decodeTableWord 16 0x000C = none := by decide

theorem test_fetch_word_runs_next : readAfter (step ((operands 3#16 0x5556#16).withFetchWord 16 4)) 0x0E#8 = some 1#16 := by decide

theorem test_fetch_word_runs_next_while_busy :
    readAfter (step (zeroBusy.withFetchWord 16 0)) 0x11#8 = some 0x1001#16 := by decide

/-! ### The commands: V2, V3, V12, V20, V21, V40, V41 -/

theorem test_nop : readAfter (exec .nop State.reset) 0x11#8 = some 0x0002#16 := by decide

theorem test_xor : readAfter (exec .xor (operands 0x1234#16 0x5678#16)) 0x0E#8 = some 0x444C#16 := by decide

theorem test_add_wraps : readAfter (exec .add (operands 0xFFFF#16 0x0002#16)) 0x0E#8 = some 0x0001#16 := by decide

theorem test_addinv : readAfter (exec .addinv (operands 0x1234#16 0x0000#16)) 0x0E#8 = some 0xEDCC#16 := by decide

theorem test_mul_zero_pattern : readAfter (exec .mul (operands 0x0005#16 0x0000#16)) 0x0E#8 = some 0xFFFC#16 := by decide

theorem test_mul_product_65536 : readAfter (exec .mul (operands 0x0100#16 0x0100#16)) 0x0E#8 = some 0x0000#16 := by decide

theorem test_mulinv : readAfter (exec .mulinv (operands 0xABCD#16 0x0000#16)) 0x0E#8 = some 0x0A9B#16 := by decide

theorem test_mulinv_zero_pattern : readAfter (exec .mulinv (operands 0x0000#16 0x0001#16)) 0x0E#8 = some 0x0000#16 := by decide

theorem test_ekgen_needs_key : readAfter (exec .ekgen State.reset) 0x11#8 = some 0x0200#16 := by decide

/-- V12, step 0: `KR` after it, first word. -/
theorem test_ekgen_first_step :
    ((nextOf (exec .ekgen (loaded 0 0 0 0))).map fun t => readAfter (coreStep t) 0x18#8) = some (some 0x0400#16) := by
  decide +kernel

theorem test_dkgen_needs_ek : readAfter (exec .dkgen State.reset) 0x11#8 = some 0x0400#16 := by decide

/-- V11, group `i = 1`, the crossed words `DK[7]`, `DK[8]`. -/
theorem test_dkgen_second_step :
    readAfter (coreStep { scheduled 0 0 0 0 with dk := State.zeroWords 52, ph := .ksd, cnt := 1, cur := 7 }) 0x87#8 = some 0x8000#16 ∧
    readAfter (coreStep { scheduled 0 0 0 0 with dk := State.zeroWords 52, ph := .ksd, cnt := 1, cur := 7 }) 0x88#8 = some 0xA000#16 := by
  decide +kernel

/-- V41: `LDKEY K1; RUN EKGEN; CMD XFORM.E`. -/
theorem test_xformE_needs_block :
    readAfter (exec .xformE { State.reset with key := keyK1, kw := 0xFF#8, kv := true }) 0x11#8 = some 0x0104#16 := by decide

/-- V20, round 7: no twist. -/
theorem test_xformE_last_round :
    blockAfter (coreStep { scheduled 0x99D0#16 0xC7F6#16 0x5331#16 0x620E#16 with ph := .rnd, cnt := 7, cur := 8 }) =
      some [0x0A24#16, 0xEC6B#16, 0x0098#16, 0x4925#16] := by decide +kernel

/-- V41: `LDKEY K1; RUN EKGEN; LDBLK ...; CMD XFORM.D`. -/
theorem test_xformD_needs_dk :
    readAfter (exec .xformD { loaded 0 1 2 3 with kv := true }) 0x11#8 = some 0x0404#16 := by decide

/-- V21, round 0. -/
theorem test_xformD_first_round :
    blockAfter (coreStep { scheduled 0x11FB#16 0xED2B#16 0x0198#16 0x6DE5#16 with ph := .rnd, cur := 9 }) =
      some [0xD98D#16, 0xD331#16, 0x27F6#16, 0x82B8#16] := by decide +kernel

theorem test_encrypt_accepted : readAfter (exec .encrypt (loaded 0 1 2 3)) 0x12#8 = some 0x0281#16 := by decide

/-- V20, the output transformation, which completes ENCRYPT: SEQ 0280. -/
theorem test_encrypt_output_transformation :
    blockAfter (coreStep { scheduled 0x0A24#16 0xEC6B#16 0x0098#16 0x4925#16 with ph := .rnd, cnt := 8, cur := 10 }) =
      some [0x11FB#16, 0xED2B#16, 0x0198#16, 0x6DE5#16] ∧
    readAfter (coreStep { scheduled 0x0A24#16 0xEC6B#16 0x0098#16 0x4925#16 with ph := .rnd, cnt := 8, cur := 10 }) 0x12#8 =
      some 0x0280#16 := by decide +kernel

theorem test_decrypt_accepted : readAfter (exec .decrypt (loaded 0 1 2 3)) 0x12#8 = some 0x02C1#16 := by decide

/-- V40: DECRYPT after 7 core steps. -/
theorem test_decrypt_goes_on_to_ksd : readAfter (coreStep { inRow .kse 6 0xB with kv := false, dv := false }) 0x12#8 = some 0x02C2#16 := by
  decide +kernel

/-! ### The register space: V41 -/

theorem test_read_unmapped : readValue (readState State.reset 0x74#8) 0x11#8 = 0x2000#16 := by decide

theorem test_write_read_only : readAfter (hostWrite State.reset 0xB3#8 1#16) 0x11#8 = some 0x2000#16 := by decide

theorem test_status_write_clears_one_bit :
    readAfter (hostWrite { State.reset with err := 0x0E#6 } 0x11#8 0x0200#16) 0x11#8 = some 0x0C00#16 := by decide

theorem test_illegal_word : readAfter (hostWrite State.reset 0x10#8 0x8001#16) 0x11#8 = some 0x0800#16 := by decide

theorem test_key_write_while_busy : readAfter (hostWrite zeroBusy 0x00#8 0x9999#16) 0x11#8 = some 0x1001#16 := by decide

theorem test_log_of_a_read :
    (nextOf (step { State.reset with host := [rdLine .status] })).map (·.log) = some [(0x11#8, 0x0000#16)] := by decide

/-- The pseudo-lines of 30_encoding.md R87: `CLRERR` is `WR 0x11, 3F00`; `RUN NOP`. -/
theorem test_pseudo_lines : clrerr = .wr 0x11#8 0x3F00#16 ∧ runLines .nop = [.wr 0x10#8 0#16, .wait] ∧
    (ldkey 1#128).getLast? = some (.wr 0x07#8 1#16) ∧ (ldblk 1#64).getLast? = some (.wr 0x0B#8 1#16) := by decide

/-! ### Sound states the statements' hypotheses are met by -/

theorem zeroKeyed_sound : Sound zeroKeyed where
  row := by decide
  done_idle := by decide
  dv_kv := by decide
  kv_kw := by decide
  kv_ek := by decide +kernel
  dv_dk := by decide +kernel
  kse_flags := by decide
  kse_kr := by decide
  kse_ek := by simp [zeroKeyed, State.reset]
  ksd_flags := by decide
  ksd_dk := by simp [zeroKeyed, State.reset]
  rnd_valid := by decide
  block_whole := by decide

theorem zeroBusy_sound : Sound zeroBusy where
  row := by decide
  done_idle := by decide
  dv_kv := by decide
  kv_kw := by decide
  kv_ek := by simp [zeroBusy, State.reset]
  dv_dk := by simp [zeroBusy, State.reset]
  kse_flags := by decide
  kse_kr := by decide
  kse_ek := by simp [zeroBusy, State.reset]
  ksd_flags := by decide
  ksd_dk := by simp [zeroBusy]
  rnd_valid := by decide
  block_whole := by decide

/-- The host agent's own fields play no part in soundness. -/
theorem zeroBusy_host_sound (l : List HostLine) (ts : List Agent) : Sound { zeroBusy with host := l, turns := ts } :=
  { zeroBusy_sound with }

/-! ### Witnesses: for each statement, states and operands that meet the hypotheses of each clause -/

theorem witness_NopSetsCurAndCompletes :
    State.reset.ph = .idle ∧ zeroBusy.ph ≠ .idle ∧ encode .nop = 0x0000#16 := by decide

theorem witness_PrimitiveCommandsShareOneBehaviour :
    Instr.xor ∈ [Instr.xor, .add, .addinv, .mul, .mulinv] ∧ Instr.mulinv ∈ [Instr.xor, .add, .addinv, .mul, .mulinv] ∧
    (operands 1#16 2#16).ph = .idle ∧ zeroBusy.ph ≠ .idle := by decide

theorem witness_XorCommandResult : (operands 0xFFFF#16 0x00FF#16).ph = .idle := by decide

theorem witness_AddCommandResult : (operands 0xFFFF#16 0x0001#16).ph = .idle := by decide

theorem witness_AddinvCommandResult : (operands 0x8000#16 0#16).ph = .idle := by decide

theorem witness_MulCommandResult : (operands 0#16 0#16).ph = .idle := by decide

theorem witness_MulinvCommandResult : (operands 0#16 0#16).ph = .idle := by decide

theorem witness_EkgenBuildsTheEncryptionSchedule :
    zeroBusy.ph ≠ .idle ∧ (State.reset.ph = .idle ∧ State.reset.kw ≠ 0xFF#8) ∧
    ((loaded 0 0 0 0).ph = .idle ∧ (loaded 0 0 0 0).kw = 0xFF#8) := by decide

theorem witness_DkgenBuildsTheDecryptionSchedule :
    zeroBusy.ph ≠ .idle ∧ (State.reset.ph = .idle ∧ State.reset.kv = false) ∧
    (zeroKeyed.ph = .idle ∧ zeroKeyed.kv = true) := by decide

theorem witness_XformETransformsWithEk :
    zeroBusy.ph ≠ .idle ∧ (State.reset.ph = .idle ∧ State.reset.kv = false) ∧
    (∃ s : State, s.ph = .idle ∧ s.kv = true ∧ s.xw ≠ 0xF#4) ∧
    (zeroKeyed.ph = .idle ∧ zeroKeyed.kv = true ∧ zeroKeyed.xw = 0xF#4) :=
  ⟨by decide, by decide, ⟨{ zeroKeyed with xw := 0x7#4 }, by decide⟩, by decide⟩

theorem witness_XformDTransformsWithDk :
    zeroBusy.ph ≠ .idle ∧ (State.reset.ph = .idle ∧ State.reset.dv = false) ∧
    (∃ s : State, s.ph = .idle ∧ s.dv = true ∧ s.xw ≠ 0xF#4) ∧
    (zeroKeyed.ph = .idle ∧ zeroKeyed.dv = true ∧ zeroKeyed.xw = 0xF#4) :=
  ⟨by decide, by decide, ⟨{ zeroKeyed with xw := 0x7#4 }, by decide⟩, by decide⟩

theorem witness_EncryptRunsScheduleThenRounds :
    zeroBusy.ph ≠ .idle ∧ (State.reset.ph = .idle ∧ State.reset.kw ≠ 0xFF#8) ∧
    (∃ s : State, s.ph = .idle ∧ s.kw = 0xFF#8 ∧ s.xw ≠ 0xF#4) ∧
    ((loaded 0 1 2 3).ph = .idle ∧ (loaded 0 1 2 3).kw = 0xFF#8 ∧ (loaded 0 1 2 3).xw = 0xF#4) :=
  ⟨by decide, by decide, ⟨{ zeroKeyed with xw := 0x7#4 }, by decide⟩, by decide⟩

theorem witness_DecryptRunsBothSchedulesThenRounds :
    zeroBusy.ph ≠ .idle ∧ (State.reset.ph = .idle ∧ State.reset.kw ≠ 0xFF#8) ∧
    (∃ s : State, s.ph = .idle ∧ s.kw = 0xFF#8 ∧ s.xw ≠ 0xF#4) ∧
    ((loaded 0 1 2 3).ph = .idle ∧ (loaded 0 1 2 3).kw = 0xFF#8 ∧ (loaded 0 1 2 3).xw = 0xF#4) :=
  ⟨by decide, by decide, ⟨{ zeroKeyed with xw := 0x7#4 }, by decide⟩, by decide⟩

theorem witness_XorOnBitStringsAndWords :
    xorBits [true] [] = none ∧ xorBits [true, true] [false, true] = some [true, false] ∧ (15 : Nat) < 16 := by decide

theorem witness_ModMulInverseIsTheUniqueInverse :
    (1 : Nat) ≤ 65536 ∧ 65536 ≤ 65536 ∧ 65536 * 65536 % 65537 = 1 ∧ 3 * 0x5556 % 65537 = 1 := by decide

theorem witness_MultiplicativeGroupLaws : (0xABCD#16 : Word) ≠ 0#16 ∧ modMul 3#16 0x5556#16 = 1#16 := by decide

theorem witness_RotationByRule : (0 : Nat) < 128 ∧ 127 < 128 := by decide

theorem witness_EncryptionScheduleClosedForm : (6 ≤ 6 ∧ 3 ≤ 7 ∧ 8 * 6 + 3 ≤ 51) ∧ (0 ≤ 6 ∧ 7 ≤ 7 ∧ 8 * 0 + 7 ≤ 51) := by decide

theorem witness_DecryptionScheduleByRule : 0 ≤ 7 ∧ 7 ≤ 7 := by decide

theorem witness_BlockAndKeySplitAndRejoin : 0 < 16 ∧ 15 < 16 := by decide

theorem witness_KseStepByRule :
    ((inRow .kse 0#4 6#4).ph = .kse ∧ (inRow .kse 0#4 6#4).cnt = BitVec.ofNat 4 0 ∧ 7 ≤ 7 ∧ 8 * 0 + 7 ≤ 51 ∧ 51 / 8 ≠ 0) ∧
    ((inRow .kse 6#4 6#4).cnt = BitVec.ofNat 4 6 ∧ (inRow .kse 6#4 6#4).cur = 0x6#4 ∧ 3 ≤ 7 ∧ 8 * 6 + 3 ≤ 51 ∧ 47 / 8 ≠ 6) ∧
    ((inRow .kse 6#4 0xA#4).cur = 0xA#4 ∧ (inRow .kse 6#4 0xB#4).cur = 0xB#4 ∧ (inRow .kse 6#4 0xB#4).ph = .kse) := by decide

theorem witness_KsdStepByRule :
    ((inRow .ksd 0#4 7#4).ph = .ksd ∧ (inRow .ksd 0#4 7#4).cnt = BitVec.ofNat 4 0 ∧ 51 / 6 ≠ 0) ∧
    ((inRow .ksd 7#4 7#4).cnt = BitVec.ofNat 4 7 ∧ 47 / 6 = 7) ∧
    ((inRow .ksd 8#4 7#4).cnt = BitVec.ofNat 4 8 ∧ (inRow .ksd 8#4 7#4).cur = 7#4 ∧ (inRow .ksd 8#4 0xB#4).cur = 0xB#4 ∧
      47 / 6 ≠ 8) := by decide

theorem witness_RndStepByRule :
    ((inRow .rnd 0#4 8#4).ph = .rnd ∧ (inRow .rnd 0#4 8#4).cnt = BitVec.ofNat 4 0 ∧ (inRow .rnd 0#4 8#4).cur.getLsbD 0 = false) ∧
    ((inRow .rnd 7#4 9#4).cnt = BitVec.ofNat 4 7 ∧ (inRow .rnd 7#4 9#4).cur.getLsbD 0 = true) ∧
    ((inRow .rnd 8#4 0xB#4).ph = .rnd ∧ (inRow .rnd 8#4 0xB#4).cnt = BitVec.ofNat 4 8) := by decide

theorem witness_StepCountsAreFixed :
    State.reset.ph = .idle ∧ acceptedByRule .nop State.reset ∧ acceptedByRule .mulinv State.reset ∧ zeroKeyed.ph = .idle ∧
    acceptedByRule .ekgen zeroKeyed ∧ acceptedByRule .dkgen zeroKeyed ∧ acceptedByRule .xformE zeroKeyed ∧
    acceptedByRule .xformD zeroKeyed ∧ acceptedByRule .encrypt zeroKeyed ∧ acceptedByRule .decrypt zeroKeyed ∧
    0 < stepCountByRule .decrypt ∧ 24 < stepCountByRule .decrypt := by
  simp [acceptedByRule, stepCountByRule, State.reset, zeroKeyed]

theorem witness_CoreIsIdleWithin25Steps : Sound zeroBusy ∧ zeroBusy.ph ≠ .idle := ⟨zeroBusy_sound, by decide⟩

theorem witness_ControlIsDataIndependent :
    (∃ s s' : State, s.x ≠ s'.x ∧ s.ph = s'.ph ∧ s.cnt = s'.cnt ∧ s.cur = s'.cur ∧ (nextOf (coreStep s)).isSome = true) ∧
    (∃ s : State, coreStep s = .fault .noSequencerRow) :=
  ⟨⟨inRow .rnd 0#4 8#4, { inRow .rnd 0#4 8#4 with x := { x0 := 1, x1 := 0, x2 := 0, x3 := 0 } }, by decide, rfl, rfl, rfl,
    by decide +kernel⟩, ⟨inRow .rnd 9#4 8#4, rfl⟩⟩

theorem witness_RoundsAreVisibleWhileBusy :
    (inRow .rnd 0#4 0xA#4).ph = .rnd ∧ (inRow .rnd 0#4 0xA#4).cnt = 0#4 ∧ 8 ≤ 8 := by decide

theorem witness_AcceptanceByRule : zeroKeyed.ph = .idle := by decide

theorem witness_EveryWordIsACommandOrIllegal :
    State.reset.ph = .idle ∧ (0x0010#16 : Word).toNat / 16 ≠ 0 ∧ (0x000C#16 : Word).toNat % 16 ≥ 0xC ∧
    (0x000B#16 : Word).toNat / 16 = 0 ∧ (0x000B#16 : Word).toNat % 16 < 0xC := by decide

theorem witness_HostWriteChecksInOrder :
    (∀ n ∈ [0x0F, 0x14, 0x17, 0x20, 0x3F, 0x74, 0x7F, 0xB4, 0xFF], unmappedByRule n) ∧
    (∀ n ∈ [0x0E, 0x12, 0x13, 0x18, 0x1F, 0x40, 0x73, 0x80, 0xB3], readOnlyByRule n) ∧
    (∀ n ∈ [0x00, 0x07, 0x08, 0x0B, 0x0C, 0x0D, 0x10, 0x11], ¬ (unmappedByRule n ∨ readOnlyByRule n)) ∧
    zeroBusy.ph ≠ .idle ∧ State.reset.ph = .idle ∧ (0x07#8 : Addr).toNat = (7 : Fin 8).val ∧
    (0x0B#8 : Addr).toNat = 8 + (3 : Fin 4).val :=
  ⟨by decide, by decide, by decide, by decide, by decide, by decide, by decide⟩

/-- No address is both unmapped and read-only, and none of these is STATUS: the clauses do not meet. -/
theorem witness_HostWriteChecksInOrder_clauses_apart :
    ∀ n, ¬ (unmappedByRule n ∧ readOnlyByRule n) ∧ ¬ (unmappedByRule 0x11 ∨ readOnlyByRule 0x11) := by
  intro n
  refine ⟨?_, by decide⟩
  simp only [unmappedByRule, readOnlyByRule]
  omega

theorem witness_DataRegisterWrites : State.reset.ph = .idle ∧ zeroKeyed.ph = .idle := by decide

theorem witness_StatusWriteClearsNamedErrors : 0 < 6 ∧ 5 < 6 := by decide

theorem witness_HostReadByMap :
    unmappedByRule 0x0F ∧ unmappedByRule 0xFF ∧ ¬ unmappedByRule 0x0E ∧ ¬ unmappedByRule 0xB3 := by decide

theorem witness_StatusSeqMasksBits : (4 ≤ 4 ∧ 7 ≤ 7) ∧ (1 ≤ 1 ∧ 6 ≤ 6) := by decide

theorem witness_ErrorBitsAreSticky :
    ∃ s t : State, step s = .next t ∧ s.err.getLsbD 5 = true ∧ t.err.getLsbD 5 = false :=
  ⟨{ State.reset with err := 0x20#6, host := [clrerr] }, State.reset, rfl, by decide, by decide⟩

theorem witness_ErrorBitsAreSticky_accepted :
    State.reset.ph = .idle ∧ acceptedByRule .nop State.reset ∧ zeroKeyed.ph = .idle ∧ acceptedByRule .decrypt zeroKeyed := by
  simp [acceptedByRule, State.reset, zeroKeyed]

theorem witness_KeyChangesOnlyByHostWriteOrReset :
    ∃ s t : State, step s = .next t ∧ (t.key ≠ s.key ∨ t.kw ≠ s.kw) :=
  ⟨{ State.reset with host := [wrLine (.key 7) 8#16] }, _, rfl, .inr (by decide)⟩

/-- A step that is no reset changes each register: the eight clauses' antecedents. -/
theorem witness_EachRegisterHasItsOwnWriters :
    changes (·.ek) { inRow .kse 0#4 6#4 with kr := 1#128 } (step { inRow .kse 0#4 6#4 with kr := 1#128 }) = true ∧
    changes (·.dk) { inRow .ksd 0#4 7#4 with ek := Vector.replicate 52 2#16 }
      (step { inRow .ksd 0#4 7#4 with ek := Vector.replicate 52 2#16 }) = true ∧
    changes (·.kr) { loaded 0 0 0 0 with host := [cmdLine .ekgen] } (step { loaded 0 0 0 0 with host := [cmdLine .ekgen] }) = true ∧
    changes (·.kr) { inRow .kse 0#4 6#4 with kr := 1#128 } (step { inRow .kse 0#4 6#4 with kr := 1#128 }) = true ∧
    changes (·.x) (inRow .rnd 0#4 8#4) (step (inRow .rnd 0#4 8#4)) = true ∧
    changes (·.x) { State.reset with host := [.wr 0x0B#8 1#16] } (step { State.reset with host := [.wr 0x0B#8 1#16] }) = true ∧
    changes (·.xw) { State.reset with host := [.wr 0x08#8 1#16] } (step { State.reset with host := [.wr 0x08#8 1#16] }) = true ∧
    changes (·.opa) { State.reset with host := [.wr 0x0C#8 1#16] } (step { State.reset with host := [.wr 0x0C#8 1#16] }) = true ∧
    changes (·.opb) { State.reset with host := [.wr 0x0D#8 1#16] } (step { State.reset with host := [.wr 0x0D#8 1#16] }) = true ∧
    changes (·.res) { State.reset with host := [cmdLine .mul] } (step { State.reset with host := [cmdLine .mul] }) = true := by
  decide +kernel

/-- The last premise of the same statement: no line of these states is a reset. -/
theorem witness_EachRegisterHasItsOwnWriters_no_reset :
    ∀ rest, ({ State.reset with host := [cmdLine .mul] } : State).host = .rst :: rest →
      mover { State.reset with host := [cmdLine .mul] } ≠ some .host := by
  intro rest h
  simp [cmdLine] at h

theorem witness_CommandAcceptanceFrame :
    (∃ t, exec .mul (operands 2#16 3#16) = .next t) ∧ (∃ t, exec .ekgen zeroKeyed = .next t) ∧
    (Instr.mul ∈ [Instr.xor, .add, .addinv, .mul, .mulinv] ∧ (0x0D#8 : Addr) ≠ 0x0E#8 ∧ (0x0F#8 : Addr) ≠ 0x0E#8) ∧
    (Instr.ekgen ∈ [Instr.ekgen, .encrypt, .decrypt] ∧ ¬ (0x18 ≤ (0x17#8 : Addr).toNat ∧ (0x17#8 : Addr).toNat ≤ 0x1F) ∧
      ¬ (0x18 ≤ (0x20#8 : Addr).toNat ∧ (0x20#8 : Addr).toNat ≤ 0x1F)) ∧
    Instr.dkgen ∉ [Instr.ekgen, .encrypt, .decrypt] ∧ Instr.xformE ∉ [Instr.ekgen, .dkgen, .encrypt, .decrypt] :=
  ⟨⟨_, rfl⟩, ⟨_, rfl⟩, by decide, by decide, by decide, by decide⟩

theorem witness_CoreStepFrame :
    (∃ t, coreStep (inRow .kse 0#4 6#4) = .next t) ∧ (∃ t, coreStep (inRow .ksd 8#4 7#4) = .next t) ∧
    (∃ t, coreStep (inRow .rnd 8#4 9#4) = .next t) ∧
    (¬ (0x18 ≤ (0x80#8 : Addr).toNat ∧ (0x80#8 : Addr).toNat ≤ 0x1F) ∧
      ¬ (0x40 ≤ (0x80#8 : Addr).toNat ∧ (0x80#8 : Addr).toNat ≤ 0x73)) ∧
    ¬ (0x80 ≤ (0x73#8 : Addr).toNat ∧ (0x73#8 : Addr).toNat ≤ 0xB3) ∧
    ¬ (0x08 ≤ (0x0C#8 : Addr).toNat ∧ (0x0C#8 : Addr).toNat ≤ 0x0B) :=
  ⟨⟨_, rfl⟩, ⟨_, rfl⟩, ⟨_, rfl⟩, by decide, by decide, by decide⟩

theorem witness_ResetFromAnyState :
    ({ zeroKeyed with host := [.rst] } : State).ph = .idle ∧
    (({ zeroBusy with host := [.rst], turns := [.host] } : State).ph ≠ .idle ∧
      ({ zeroBusy with host := [.rst], turns := [.host] } : State).turns.head? = some .host) := by decide

theorem witness_StepRunsTheDecodedCommand :
    ({ zeroKeyed with host := [.wr 0x10#8 0x000B#16] } : State).ph = .idle ∧
    ({ zeroKeyed with host := [.wr 0x10#8 0x000B#16] } : State).host = .wr 0x10#8 0x000B#16 :: [] ∧
    decode 0x000B#16 = .ok .decrypt := by decide

/-- The other clauses: a line of each kind pending, at the ends of the address range, while idle and while busy with the host's turn. -/
theorem witness_StepRunsTheDecodedCommand_lines :
    ∀ l ∈ [HostLine.wr 0x00#8 0xFFFF#16, .wr 0xFF#8 0#16, .wr 0x10#8 0x000C#16, .rd 0x00#8, .rd 0xFF#8, .wait, .rst],
      (({ State.reset with host := [l] } : State).ph = .idle ∧ ({ State.reset with host := [l] } : State).host = l :: []) ∧
      (({ zeroBusy with host := [l], turns := [.host] } : State).ph ≠ .idle ∧
        ({ zeroBusy with host := [l], turns := [.host] } : State).host = l :: [] ∧
        ({ zeroBusy with host := [l], turns := [.host] } : State).turns = .host :: []) := by decide

theorem witness_DecodeAndEncodeAgree : Instr.wellFormed .decrypt = true ∧ decode 0x000B#16 = .ok .decrypt := by decide

theorem witness_AgentsInterleaveByTurns :
    mover zeroBusy = some .core ∧ (zeroBusy.ph ≠ .idle ∧ zeroBusy.host = []) ∧
    ({ zeroBusy with host := [.wait] } : State).host ≠ [] ∧
    (State.reset.ph = .idle ∧ State.reset.host = []) ∧ ({ State.reset with host := [.wait] } : State).host ≠ [] := by decide

theorem witness_EveryStepKeepsSound : Sound zeroBusy ∧ ∃ t, step zeroBusy = .next t := ⟨zeroBusy_sound, _, rfl⟩

theorem witness_SoundMachineNeverStops : Sound zeroKeyed ∧ Sound zeroBusy := ⟨zeroKeyed_sound, zeroBusy_sound⟩

/-- One step, a dropped key write while busy: the state before it and the state after it are both busy. -/
theorem witness_HostTrafficCannotDisturbACommand :
    ∃ s t : State, noReset s.host = true ∧ Host.Core.run Sys2Proof.core 1 s = .next t ∧
      (∀ m u, m ≤ 1 → Host.Core.run Sys2Proof.core m s = .next u → u.ph ≠ .idle) := by
  refine ⟨{ zeroBusy with host := [.wr 0x00#8 1#16], turns := [.host] }, { zeroBusy with err := 0x10#6 }, by decide, rfl, ?_⟩
  intro m u hm hu
  match m, hm with
  | 0, _ => cases hu; decide
  | 1, _ => cases hu; decide

theorem witness_WaitEnds :
    Sound { zeroBusy with host := [.wait], turns := [.host, .core] } ∧
    ({ zeroBusy with host := [.wait], turns := [.host, .core] } : State).host = .wait :: [] := ⟨zeroBusy_host_sound _ _, rfl⟩

theorem witness_EncryptThenDecryptRestoresX :
    (loaded 0 1 2 3).ph = .idle ∧ (loaded 0 1 2 3).kw = 0xFF#8 ∧ (loaded 0 1 2 3).xw = 0xF#4 := by decide

theorem witness_XformEThenXformDRestoresX :
    Sound zeroKeyed ∧ zeroKeyed.ph = .idle ∧ zeroKeyed.dv = true ∧ zeroKeyed.xw = 0xF#4 := ⟨zeroKeyed_sound, by decide⟩

end Sys2Proof.Tests
end

section
/-! PROOF. The 16-bit segments of a block and of a key (00_scope.md R10), bit by bit: bit `p` of segment `j` is bit `48 - 16j + p` of
the block and bit `112 - 16j + p` of the key, and every bit of the whole is such a bit. Both round trips follow by extensionality. -/

namespace Sys2Proof.Machine

/-- Splitting a block, bit by bit. -/
theorem blockWord_blockOfBits_getLsbD (B : Block64) (j : Fin 4) {p : Nat} (hp : p < 16) :
    (blockWord (blockOfBits B) j).getLsbD p = B.getLsbD (48 - 16 * j.val + p) := by
  fin_cases j <;> simp [blockWord, blockOfBits, hp]

/-- Splitting a key, bit by bit. -/
theorem seg_getLsbD (K : Key128) (j : Nat) {p : Nat} (hp : p < 16) :
    (seg K j).getLsbD p = K.getLsbD (112 - 16 * j + p) := by
  simp [seg, hp]

/-- Joining the four words of a block, bit by bit. -/
theorem blockBits_getLsbD (b : Block) (j : Fin 4) {p : Nat} (hp : p < 16) :
    (blockBits b).getLsbD (48 - 16 * j.val + p) = (blockWord b j).getLsbD p := by
  simp only [blockBits, BitVec.getLsbD_append]
  fin_cases j <;> grind [blockWord]

/-- Joining the eight words of a key, bit by bit. -/
theorem keyBits_getLsbD (k : Vector Word 8) (j : Fin 8) {p : Nat} (hp : p < 16) :
    (keyBits k).getLsbD (112 - 16 * j.val + p) = k[j].getLsbD p := by
  simp only [keyBits, BitVec.getLsbD_append]
  fin_cases j <;> grind

/-- Two blocks with the same four words are the same block. -/
theorem block_ext_blockWord {b c : Block} (h : ∀ j, blockWord b j = blockWord c j) : b = c := by
  obtain ⟨b0, b1, b2, b3⟩ := b
  obtain ⟨c0, c1, c2, c3⟩ := c
  rw [Block.mk.injEq]
  exact ⟨h 0, h 1, h 2, h 3⟩

/-- Bit `q` of a block lies in segment `3 - q / 16`. -/
theorem block64_ext_segments {B C : Block64}
    (h : ∀ (j : Fin 4) (p : Nat), p < 16 → B.getLsbD (48 - 16 * j.val + p) = C.getLsbD (48 - 16 * j.val + p)) : B = C := by
  refine BitVec.eq_of_getLsbD_eq fun q hq => ?_
  have hsplit : 48 - 16 * (3 - q / 16) + q % 16 = q := by omega
  simpa only [hsplit] using h ⟨3 - q / 16, by omega⟩ (q % 16) (Nat.mod_lt q (by decide))

/-- Bit `q` of a key lies in segment `7 - q / 16`. -/
theorem key128_ext_segments {K L : Key128}
    (h : ∀ (j : Fin 8) (p : Nat), p < 16 → K.getLsbD (112 - 16 * j.val + p) = L.getLsbD (112 - 16 * j.val + p)) : K = L := by
  refine BitVec.eq_of_getLsbD_eq fun q hq => ?_
  have hsplit : 112 - 16 * (7 - q / 16) + q % 16 = q := by omega
  simpa only [hsplit] using h ⟨7 - q / 16, by omega⟩ (q % 16) (Nat.mod_lt q (by decide))

@[simp] theorem blockBits_blockOfBits (B : Block64) : blockBits (blockOfBits B) = B :=
  block64_ext_segments fun j _ hp => by rw [blockBits_getLsbD _ j hp, blockWord_blockOfBits_getLsbD B j hp]

@[simp] theorem blockOfBits_blockBits (b : Block) : blockOfBits (blockBits b) = b :=
  block_ext_blockWord fun j => BitVec.eq_of_getLsbD_eq fun p hp => by
    rw [blockWord_blockOfBits_getLsbD _ j hp, blockBits_getLsbD b j hp]

@[simp] theorem keyBits_ofFn_seg (K : Key128) : keyBits (Vector.ofFn fun j => seg K j.val) = K :=
  key128_ext_segments fun j p hp => by
    rw [keyBits_getLsbD _ j hp, Fin.getElem_fin, Vector.getElem_ofFn, seg_getLsbD K j hp]

@[simp] theorem seg_keyBits (k : Vector Word 8) (j : Fin 8) : seg (keyBits k) j.val = k[j] :=
  BitVec.eq_of_getLsbD_eq fun p hp => by rw [seg_getLsbD _ j hp, keyBits_getLsbD k j hp]

/-- Settles O25: segments and bits correspond, so splitting and joining undo each other (R10). -/
theorem blockAndKeySplitAndRejoin : Obligations.BlockAndKeySplitAndRejoin :=
  ⟨blockBits_blockOfBits, blockOfBits_blockBits, keyBits_ofFn_seg, seg_keyBits,
    fun B j _ hp => blockWord_blockOfBits_getLsbD B j hp, fun K j _ hp => seg_getLsbD K j.val hp⟩

end Sys2Proof.Machine
end

section
/-! PROOF. Every command is one use of `issue`: its acceptance check and its start, and what a start leaves unchanged (43_control.md
R181). -/

namespace Sys2Proof.Machine

/-- The acceptance check of a command (43_control.md R181). -/
def checkOf : Instr → State → Option Cause
  | .nop | .xor | .add | .addinv | .mul | .mulinv => needNothing
  | .ekgen => needKey
  | .dkgen => needEk
  | .xformE => firstOf needEk needBlock
  | .xformD => firstOf needDk needBlock
  | .encrypt | .decrypt => firstOf needKey needBlock

/-- What an accepted command does once `DONE` is 0 and `CUR` is set (43_control.md R181). -/
def startOf : Instr → State → State
  | .nop, t => t.complete
  | .xor, t => (t.setRes (xor16 t.opa t.opb)).complete
  | .add, t => (t.setRes (modAdd t.opa t.opb)).complete
  | .addinv, t => (t.setRes (modAddInverse t.opa)).complete
  | .mul, t => (t.setRes (modMul t.opa t.opb)).complete
  | .mulinv, t => (t.setRes (modMulInverse t.opa)).complete
  | .ekgen, t | .encrypt, t | .decrypt, t => t.startKse
  | .dkgen, t => t.startKsd
  | .xformE, t | .xformD, t => t.startRnd

theorem exec_eq_issue (i : Instr) (s : State) : exec i s = issue i (checkOf i) (startOf i) s := by
  cases i <;> rfl

/-- The check passes exactly under the conditions the statements call acceptance (70_reset_and_hazards.md R222). -/
theorem checkOf_eq_none_iff (i : Instr) (s : State) : checkOf i s = none ↔ acceptedByRule i s := by
  cases i <;> simp [checkOf, acceptedByRule, needNothing, firstOf_eq_none_iff, needKey_eq_none_iff, needBlock_eq_none_iff,
    needEk_eq_none_iff, needDk_eq_none_iff]

@[simp] theorem startOf_key (i : Instr) (s : State) : (startOf i s).key = s.key := by cases i <;> rfl
@[simp] theorem startOf_kw (i : Instr) (s : State) : (startOf i s).kw = s.kw := by cases i <;> rfl
@[simp] theorem startOf_ek (i : Instr) (s : State) : (startOf i s).ek = s.ek := by cases i <;> rfl
@[simp] theorem startOf_dk (i : Instr) (s : State) : (startOf i s).dk = s.dk := by cases i <;> rfl
@[simp] theorem startOf_x (i : Instr) (s : State) : (startOf i s).x = s.x := by cases i <;> rfl
@[simp] theorem startOf_xw (i : Instr) (s : State) : (startOf i s).xw = s.xw := by cases i <;> rfl
@[simp] theorem startOf_opa (i : Instr) (s : State) : (startOf i s).opa = s.opa := by cases i <;> rfl
@[simp] theorem startOf_opb (i : Instr) (s : State) : (startOf i s).opb = s.opb := by cases i <;> rfl
@[simp] theorem startOf_err (i : Instr) (s : State) : (startOf i s).err = s.err := by cases i <;> rfl
@[simp] theorem startOf_cur (i : Instr) (s : State) : (startOf i s).cur = s.cur := by cases i <;> rfl

/-- Only the commands that start phase `KSE` load `KR` (41_key_scheduler.md R136). -/
theorem startOf_kr_of_notMem {i : Instr} (h : i ∉ [Instr.ekgen, .encrypt, .decrypt]) (s : State) :
    (startOf i s).kr = s.kr := by
  cases i <;> simp [startOf] at h ⊢

/-- Only the primitive commands write `RES` (40_primitives.md R108). -/
theorem startOf_res_of_notMem {i : Instr} (h : i ∉ [Instr.xor, .add, .addinv, .mul, .mulinv]) (s : State) :
    (startOf i s).res = s.res := by
  cases i <;> simp [startOf] at h ⊢

theorem opcode_of_decodeOp {op : BitVec 4} {i : Instr} (h : decodeOp op = .ok i) : op = i.opcode := by
  revert op
  cases i <;> decide

/-- The command a word decodes to has that word as its encoding (30_encoding.md R81, R83). -/
theorem eq_encode_of_decode {w : Word} {i : Instr} (h : decode w = .ok i) : w = encode i := by
  unfold decode at h
  split at h
  case isFalse => cases h
  case isTrue hz =>
    have hzero : w.extractLsb' 4 12 = 0#12 := by simpa [Word.zeroFieldOk, Word.zeroField] using hz
    have hop : w.extractLsb' 0 4 = i.opcode := opcode_of_decodeOp h
    calc w = w.extractLsb' 4 12 ++ w.extractLsb' 0 4 := (BitVec.extractLsb'_append_extractLsb' (w := 12) (len := 4)).symm
      _ = encode i := by rw [hzero, hop, encode]

end Sys2Proof.Machine
end

section
/-! PROOF. What one step of the machine can do to the state: a core step, or the effect of one host line, one constructor a kind of
effect (20_memory.md R52 to R58, 43_control.md R181). The invariants below are cases on these effects. -/

namespace Sys2Proof.Machine

/-- The effects of a host line on a core state. -/
inductive LineEffect (s : State) : HostLine → State → Prop
  /-- `RST` (70_reset_and_hazards.md R220). -/
  | reset : LineEffect s .rst s.resetCore
  /-- A read, a wait, a refused access or a refused command word: apart from the host agent's own fields it can only take `DONE`
  down and set error bits. -/
  | inert (l : HostLine) (d : Bool) (e : BitVec 6) (lines : List HostLine) (log : List (Addr × Word))
      (hd : d = true → s.done = true) :
      LineEffect s l { s with done := d, err := s.err ||| e, host := lines, log := log }
  /-- The write of STATUS (20_memory.md R58). -/
  | acknowledge (v : Word) : LineEffect s (.wr (addrOfReg .status) v) (s.acknowledge v)
  /-- The write of a `KEYj` (20_memory.md R54). -/
  | writeKey (j : Fin 8) (v : Word) (hp : s.ph = .idle) : LineEffect s (.wr (addrOfReg (.key j)) v) (s.writeKey j v)
  /-- The write of an `Xj` (20_memory.md R55). -/
  | writeX (j : Fin 4) (v : Word) (hp : s.ph = .idle) : LineEffect s (.wr (addrOfReg (.x j)) v) (s.writeX j v)
  /-- The write of OPA (20_memory.md R56). -/
  | writeOpa (v : Word) (hp : s.ph = .idle) : LineEffect s (.wr (addrOfReg .opa) v) (s.writeOpa v)
  /-- The write of OPB (20_memory.md R56). -/
  | writeOpb (v : Word) (hp : s.ph = .idle) : LineEffect s (.wr (addrOfReg .opb) v) (s.writeOpb v)
  /-- An accepted command (43_control.md R181). -/
  | command (i : Instr) (hp : s.ph = .idle) (ha : acceptedByRule i s) :
      LineEffect s (.wr (addrOfReg .cmd) (encode i)) (startOf i (s.clearDone.accept i))

/-- Changing only the host agent's own fields is an inert effect. -/
theorem LineEffect.agentOnly (s : State) (l : HostLine) (lines : List HostLine) (log : List (Addr × Word)) :
    LineEffect s l { s with host := lines, log := log } := by
  simpa using LineEffect.inert (s := s) l s.done 0#6 lines log id

/-- Raising an error is an inert effect. -/
theorem LineEffect.raise (s : State) (l : HostLine) (c : Cause) : LineEffect s l (s.raise c) :=
  .inert l s.done (causeMask c) s.host s.log id

/-- Refusing a command word is an inert effect. -/
theorem LineEffect.refuse (s : State) (l : HostLine) (c : Cause) : LineEffect s l (s.clearDone.raise c) :=
  .inert l false (causeMask c) s.host s.log (by simp)

/-- A read is an inert effect, whatever it leaves in the host agent's own fields. -/
theorem LineEffect.read (s : State) (l : HostLine) (a : Addr) (lines : List HostLine) (log : List (Addr × Word)) :
    LineEffect s l { readState s a with host := lines, log := log } := by
  rcases readState_cases s a with ⟨_, h⟩ | ⟨_, h⟩ <;> rw [h]
  · exact .agentOnly s l lines log
  · exact .inert l s.done (causeMask .addr) lines log id

/-- A command word written to CMD while idle is refused or accepted. -/
theorem acceptWord_effect {s t : State} {w : Word} (hb : s.busy = false) (h : acceptWord s w = .next t) :
    LineEffect s (.wr (addrOfReg .cmd) w) t := by
  rcases acceptWord_cases h with ⟨i, hw, he⟩ | ⟨_, _, he⟩
  · obtain rfl := eq_encode_of_decode hw
    rw [exec_eq_issue] at he
    rcases issue_cases he.symm with ⟨hb', _⟩ | ⟨_, c, _, ht⟩ | ⟨_, hc, ht⟩
    · simp [hb] at hb'
    · cases ht; exact .refuse s _ c
    · cases ht; exact .command i ((busy_eq_false_iff s).1 hb) ((checkOf_eq_none_iff i s).1 hc)
  · cases he; exact .refuse s _ .illcmd

theorem hostWrite_effect {s t : State} {a : Addr} {v : Word} (h : hostWrite s a v = .next t) :
    LineEffect s (.wr a v) t := by
  rcases hostWrite_cases h with ⟨rfl, ht⟩ | ⟨_, _, ht⟩ | ⟨_, ht⟩ | ⟨hb, j, hr, ht⟩ | ⟨hb, j, hr, ht⟩ | ⟨hb, hr, ht⟩ |
    ⟨hb, hr, ht⟩ | ⟨hb, hr, ht⟩
  case inl => cases ht; exact .acknowledge v
  case inr.inl => cases ht; exact .raise s _ .addr
  case inr.inr.inl => cases ht; exact .raise s _ .busy
  all_goals
    obtain rfl := addrOfReg_of_regOfAddr hr
    have hp := (busy_eq_false_iff s).1 hb
  · cases ht; exact .writeKey j v hp
  · cases ht; exact .writeX j v hp
  · cases ht; exact .writeOpa v hp
  · cases ht; exact .writeOpb v hp
  · exact acceptWord_effect hb ht.symm

theorem performLine_effect {l : HostLine} {s t : State} (h : performLine l s = .next t) : LineEffect s l t := by
  cases l with
  | rst => cases h; exact .reset
  | wr a v => exact hostWrite_effect h
  | rd a => cases h; exact .read s _ a _ _
  | wait =>
    simp only [performLine] at h
    split at h <;> cases h
    · exact .read s _ _ _ _
    · rw [readState_addrOfReg]
      exact .agentOnly s _ s.host s.log

/-- What a step that answers a next state is: quiescence, the effect of the host's next line, or a core step. -/
theorem step_effect {s t : State} (h : step s = .next t) :
    t = s ∨
    (∃ l rest ts, s.host = l :: rest ∧ mover s = some .host ∧ LineEffect { s with host := rest, turns := ts } l t) ∨
    (∃ ts, mover s = some .core ∧ coreStep { s with turns := ts } = .next t) := by
  rcases step_cases h with ⟨_, _, ht⟩ | ⟨l, rest, ts, hh, hm, ht⟩ | ⟨ts, _, hm, ht⟩
  · cases ht; exact .inl rfl
  · exact .inr (.inl ⟨l, rest, ts, hh, hm, performLine_effect ht.symm⟩)
  · exact .inr (.inr ⟨ts, hm, ht.symm⟩)

/-- What no core step changes (41_key_scheduler.md R137, R140, 42_round_engine.md R158). -/
theorem coreStep_keeps {s t : State} (h : coreStep s = .next t) :
    t.key = s.key ∧ t.kw = s.kw ∧ t.xw = s.xw ∧ t.opa = s.opa ∧ t.opb = s.opb ∧ t.res = s.res ∧ t.err = s.err := by
  rcases coreStep_cases h with
    ⟨_, _, rfl⟩ | ⟨_, _, _, rfl⟩ | ⟨_, _, _, rfl⟩ | ⟨_, _, _, rfl⟩ | ⟨_, _, rfl⟩ | ⟨_, _, _, rfl⟩ | ⟨_, _, _, rfl⟩ |
    ⟨_, _, rfl⟩ | ⟨_, _, rfl⟩ <;> simp

/-- What a core step changes only in the phase that owns it (41_key_scheduler.md R137, R140, 42_round_engine.md R158). -/
theorem coreStep_changes {s t : State} (h : coreStep s = .next t) :
    (t.ek ≠ s.ek → s.ph = .kse) ∧ (t.kr ≠ s.kr → s.ph = .kse) ∧ (t.dk ≠ s.dk → s.ph = .ksd) ∧
    (t.x ≠ s.x → s.ph = .rnd) := by
  rcases coreStep_cases h with
    ⟨hp, _, rfl⟩ | ⟨hp, _, _, rfl⟩ | ⟨hp, _, _, rfl⟩ | ⟨hp, _, _, rfl⟩ | ⟨hp, _, rfl⟩ | ⟨hp, _, _, rfl⟩ |
    ⟨hp, _, _, rfl⟩ | ⟨hp, _, rfl⟩ | ⟨hp, _, rfl⟩ <;> simp [hp]

end Sys2Proof.Machine
end

section
/-! PROOF. Who changes what: the status views, the error bits, and the writers of each register (10_state.md sections 2 and 3). -/

namespace Sys2Proof.Machine

/-- STATUS, bit by bit (10_state.md R29). -/
theorem statusWord_getLsbD (s : State) (i : Nat) : (statusWord s).getLsbD i =
    if i = 0 then s.busy else if i = 1 then s.done else if i = 2 then s.kv else if i = 3 then s.dv
    else if i < 8 then false else s.err.getLsbD (i - 8) := by
  simp only [statusWord, BitVec.getLsbD_append]
  grind

/-- Bits 13:8 of STATUS are `ERR` (10_state.md R29). -/
theorem statusWord_errField (s : State) : (statusWord s).extractLsb' 8 6 = s.err := by
  ext p hp
  rw [BitVec.getElem_extractLsb', statusWord_getLsbD]
  grind

/-- SEQ, bit by bit (10_state.md R35). -/
theorem seqWord_getLsbD (s : State) (i : Nat) : (seqWord s).getLsbD i =
    if i < 2 then (phaseCode s.ph).getLsbD i else if i < 6 then s.cnt.getLsbD (i - 2) else s.cur.getLsbD (i - 6) := by
  simp only [seqWord, BitVec.getLsbD_append]
  grind

/-- MASKS, bit by bit (10_state.md R36). -/
theorem masksWord_getLsbD (s : State) (i : Nat) : (masksWord s).getLsbD i =
    if i < 8 then s.kw.getLsbD i else s.xw.getLsbD (i - 8) := by
  simp only [masksWord, BitVec.getLsbD_append]
  grind

/-- The fields of SEQ (10_state.md R35). -/
theorem seqWord_fields (s : State) :
    (seqWord s).extractLsb' 0 2 = phaseCode s.ph ∧ (seqWord s).extractLsb' 2 4 = s.cnt ∧
    (seqWord s).extractLsb' 6 4 = s.cur ∧ (seqWord s).extractLsb' 10 6 = 0#6 := by
  refine ⟨?_, ?_, ?_, ?_⟩ <;> ext p hp <;> rw [BitVec.getElem_extractLsb', seqWord_getLsbD] <;> grind

/-- The fields of MASKS (10_state.md R36). -/
theorem masksWord_fields (s : State) :
    (masksWord s).extractLsb' 0 8 = s.kw ∧ (masksWord s).extractLsb' 8 4 = s.xw ∧
    (masksWord s).extractLsb' 12 4 = 0#4 := by
  refine ⟨?_, ?_, ?_⟩ <;> ext p hp <;> rw [BitVec.getElem_extractLsb', masksWord_getLsbD] <;> grind

/-- Settles O43: each view is a concatenation of state bits in the order of R29, R35, R36, R200. -/
theorem statusSeqMasksBits : Obligations.StatusSeqMasksBits := by
  intro s
  obtain ⟨hph, hcnt, hcur, hseq⟩ := seqWord_fields s
  obtain ⟨hkw, hxw, hmasks⟩ := masksWord_fields s
  refine ⟨statusWord_getLsbD s 0, statusWord_getLsbD s 1, statusWord_getLsbD s 2, statusWord_getLsbD s 3, ?_, ?_,
    ?_, ?_, ?_, hcnt, hcur, hseq, hkw, hxw, hmasks, (statusWord_getLsbD s 0).symm, (statusWord_getLsbD s 1).symm, ?_⟩
  · intro i h4 h7
    rw [statusWord_getLsbD]
    grind
  · intro c h1 h6
    rw [statusWord_getLsbD]
    grind
  · exact (statusWord_getLsbD s 14).trans (BitVec.getLsbD_of_ge s.err 6 le_rfl)
  · exact (statusWord_getLsbD s 15).trans (BitVec.getLsbD_of_ge s.err 7 (by decide))
  · rw [hph]
    cases s.ph <;> rfl
  · simp [statusWord_errField, errLine]

/-- `ERR[c-1]` is the one bit of the mask of cause code `c` (10_state.md R34). -/
theorem causeMask_getLsbD (c : Cause) (i : Nat) : (causeMask c).getLsbD i = (i + 1 == causeCode c) := by
  have hbit : (causeMask c).getLsbD i = (decide (causeCode c - 1 < 6) && decide (causeCode c - 1 = i)) :=
    BitVec.getLsbD_twoPow _ i
  rw [hbit]
  cases c <;> simp [causeCode, beq_eq_decide, eq_comm]

/-- An error bit falls only by a reset or a STATUS write that names it (10_state.md R34, 20_memory.md R58). -/
theorem LineEffect.err_falls {s t : State} {l : HostLine} {i : Nat} (h : LineEffect s l t)
    (hs : s.err.getLsbD i = true) (ht : t.err.getLsbD i = false) :
    l = .rst ∨ ∃ v : Word, l = .wr 0x11#8 v ∧ v.getLsbD (8 + i) = true := by
  cases h with
  | reset => exact .inl rfl
  | acknowledge v =>
    refine .inr ⟨v, rfl, ?_⟩
    have hi : i < 6 := BitVec.lt_of_getLsbD hs
    simpa [hs, hi, statusClearField] using ht
  | inert => simp [hs] at ht
  | writeKey | writeX | writeOpa | writeOpb | command => simp [hs] at ht

/-- Settles O44: the effects of a step that touch `ERR` are `raise`, which sets a bit, the acknowledgement and the reset. -/
theorem errorBitsAreSticky : Obligations.ErrorBitsAreSticky := by
  refine ⟨fun s c i => ?_, fun s t i h hs ht => ?_, fun i s e hp ha => ?_⟩
  · rw [State.raise_err, BitVec.getLsbD_or, causeMask_getLsbD]
  · rcases step_effect h with rfl | ⟨l, rest, ts, hh, hm, hl⟩ | ⟨ts, _, hc⟩
    · simp [hs] at ht
    · exact ⟨l, rest, hh, hm, hl.err_falls hs ht⟩
    · obtain ⟨_, _, _, _, _, _, herr⟩ := coreStep_keeps hc
      simp [herr, hs] at ht
  · have hb : ({ s with err := e } : State).busy = false := (busy_eq_false_iff _).2 hp
    have hc : checkOf i { s with err := e } = none := by
      rw [checkOf_eq_none_iff]; cases i <;> exact ha
    exact ⟨_, (exec_eq_issue i _).trans (issue_accepted hb hc), by simp, by simp⟩

/-- The address of a `KEYj` is below 8 (20_memory.md R51). -/
theorem addrOfReg_key_lt (j : Fin 8) : (addrOfReg (.key j)).toNat < 8 := by
  revert j; decide

/-- Settles O45: only the reset and the write of a `KEYj` have an effect on `KEY` or `KW`. -/
theorem keyChangesOnlyByHostWriteOrReset : Obligations.KeyChangesOnlyByHostWriteOrReset := by
  intro s t h hne
  rcases step_effect h with rfl | ⟨l, rest, ts, hh, hm, hl⟩ | ⟨ts, _, hc⟩
  · simp at hne
  · refine ⟨l, rest, hh, hm, ?_⟩
    cases hl with
    | reset => exact .inl rfl
    | writeKey j v hp => exact .inr ⟨hp, addrOfReg (.key j), v, rfl, addrOfReg_key_lt j⟩
    | inert | acknowledge | writeX | writeOpa | writeOpb | command => simp at hne
  · obtain ⟨hkey, hkw, _⟩ := coreStep_keeps hc
    simp [hkey, hkw] at hne

/-- The address of an `Xj` is 8 to 11 (20_memory.md R51). -/
theorem addrOfReg_x_bounds (j : Fin 4) : 8 ≤ (addrOfReg (.x j)).toNat ∧ (addrOfReg (.x j)).toNat < 12 := by
  revert j; decide

/-- Settles O46: the writers of each register are read off the effects of a step. -/
theorem eachRegisterHasItsOwnWriters : Obligations.EachRegisterHasItsOwnWriters := by
  intro s t h hrst
  rcases step_effect h with rfl | ⟨l, rest, ts, hh, hm, hl⟩ | ⟨ts, hm, hc⟩
  case inl => simp
  case inr.inr =>
    obtain ⟨_, _, hxw, hopa, hopb, hres, _⟩ := coreStep_keeps hc
    obtain ⟨hek, hkr, hdk, hx⟩ := coreStep_changes hc
    exact ⟨fun hne => ⟨hek hne, hm⟩, fun hne => ⟨hdk hne, hm⟩, fun hne => .inl ⟨hkr hne, hm⟩,
      fun hne => .inl ⟨hx hne, hm⟩, (absurd hxw ·), (absurd hopa ·), (absurd hopb ·), (absurd hres ·)⟩
  case inr.inl =>
    cases hl with
    | reset => exact absurd hm (hrst rest hh)
    | inert | acknowledge | writeKey => simp
    | writeX j v hp =>
      have hline : s.ph = .idle ∧ ∃ a v rest, s.host = .wr a v :: rest ∧ 8 ≤ a.toNat ∧ a.toNat < 12 :=
        ⟨hp, _, v, rest, hh, addrOfReg_x_bounds j⟩
      exact ⟨(absurd rfl ·), (absurd rfl ·), (absurd rfl ·), fun _ => .inr hline, fun _ => hline, (absurd rfl ·),
        (absurd rfl ·), (absurd rfl ·)⟩
    | writeOpa v hp => simpa using fun _ => ⟨hp, v, rest, hh⟩
    | writeOpb v hp => simpa using fun _ => ⟨hp, v, rest, hh⟩
    | command i hp ha =>
      refine ⟨(absurd (startOf_ek i _) ·), (absurd (startOf_dk i _) ·), fun hne => .inr ⟨hp, i, rest, ?_, hh⟩,
        (absurd (startOf_x i _) ·), (absurd (startOf_xw i _) ·), (absurd (startOf_opa i _) ·),
        (absurd (startOf_opb i _) ·), fun hne => ⟨hp, i, rest, ?_, hh⟩⟩
      · exact by_contra fun hi => hne (startOf_kr_of_notMem hi _)
      · exact by_contra fun hi => hne (startOf_res_of_notMem hi _)

end Sys2Proof.Machine
end

section
/-! PROOF. The invariant `Sound` (10_state.md R30, R31, 60_exceptions.md R206) holds after reset and is kept by every step. What it says
of the schedules does not depend on the phase (`ValidFlags`), and each phase adds its own clauses (`Sound.of_idle` to
`Sound.of_rnd`), so a step into a phase proves only that phase's. -/

namespace Sys2Proof.Machine

/-! ### Rotations and the stores under construction -/

theorem rotl128_eq_rotateLeft (K : Key128) {n : Nat} (hn : n < 128) : rotl128 K n = K.rotateLeft n := by
  rw [BitVec.rotateLeft_def, Nat.mod_eq_of_lt hn, rotl128]

theorem rotateLeft_rotateLeft {w : Nat} (x : BitVec w) (a b : Nat) :
    (x.rotateLeft a).rotateLeft b = x.rotateLeft (a + b) := by
  refine BitVec.eq_of_getMsbD_eq fun i hi => ?_
  have hlt : (b + i) % w < w := Nat.mod_lt _ (by omega)
  simp [BitVec.getMsbD_rotateLeft, hi, hlt, Nat.add_assoc]

/-- Rotations compose (41_key_scheduler.md R132). -/
theorem rotl128_rotl128 (K : Key128) {a b : Nat} (ha : a < 128) (hb : b < 128) :
    rotl128 (rotl128 K a) b = rotl128 K ((a + b) % 128) := by
  rw [rotl128_eq_rotateLeft K ha, rotl128_eq_rotateLeft _ hb, rotl128_eq_rotateLeft K (Nat.mod_lt _ (by decide)),
    rotateLeft_rotateLeft, BitVec.rotateLeft_mod_eq_rotateLeft]

/-- The key register after `n` rotations (41_key_scheduler.md R132). -/
theorem rotl128_iterate (K : Key128) (n : Nat) :
    (fun c => rotl128 c Config.rot)^[n] K = rotl128 K (25 * n % 128) := by
  induction n with
  | zero => simp [rotl128, BitVec.ushiftRight_eq_zero]
  | succ n ih =>
    rw [Function.iterate_succ_apply', ih, rotl128_rotl128 K (Nat.mod_lt _ (by decide)) (by decide), Config.rot,
      Nat.mod_add_mod, Nat.mul_succ]

/-- A core step of `KSE` extends the finished part of `EK` by one group (41_key_scheduler.md R137). -/
theorem kseWrite_extends {E : Subkeys} {K : Key128} {n : Nat}
    (h : ∀ i : Fin 52, i.val < 8 * n → E[i] = (generateEncryptionSubkeys K)[i]) (i : Fin 52) (hi : i.val < 8 * (n + 1)) :
    (kseWrite E (rotl128 K (25 * n % 128)) n)[i] = (generateEncryptionSubkeys K)[i] := by
  rw [Fin.getElem_fin, Fin.getElem_fin, kseWrite_getElem]
  split
  case isTrue hn => rw [generateEncryptionSubkeys_getElem, rotl128_iterate, hn]
  case isFalse hn => exact h i (by omega)

/-- A core step of `KSD` extends the finished part of `DK` by one group (41_key_scheduler.md R140). -/
theorem ksdWrite_extends {D E : Subkeys} {n : Nat}
    (h : ∀ k : Fin 52, k.val < 6 * n → D[k] = (generateDecryptionSubkeys E)[k]) (k : Fin 52) (hk : k.val < 6 * (n + 1)) :
    (ksdWrite D E n)[k] = (generateDecryptionSubkeys E)[k] := by
  rw [Fin.getElem_fin, Fin.getElem_fin, ksdWrite_getElem]
  split
  case isTrue => rw [generateDecryptionSubkeys_getElem]
  case isFalse hn => exact h k (by omega)

/-- A store whose finished part is the whole of it is the schedule. -/
theorem subkeys_eq_of_getElem_eq {S T : Subkeys} {n : Nat} (hn : 52 ≤ n) (h : ∀ i : Fin 52, i.val < n → S[i] = T[i]) :
    S = T :=
  Vector.ext fun i hi => h ⟨i, hi⟩ (by omega)

/-! ### The invariant, phase by phase -/

/-- What `KV` and `DV` vouch for, in every phase (10_state.md R30, R31). -/
structure ValidFlags (s : State) : Prop where
  dv_kv : s.dv = true → s.kv = true
  kv_kw : s.kv = true → s.kw = 0xFF#8
  kv_ek : s.kv = true → s.ek = generateEncryptionSubkeys (keyBits s.key)
  dv_dk : s.dv = true → s.dk = generateDecryptionSubkeys s.ek

theorem Sound.validFlags {s : State} (h : Sound s) : ValidFlags s := { h with }

theorem Sound.of_idle {s : State} (hv : ValidFlags s) (hp : s.ph = .idle) (hcnt : s.cnt = 0#4) (hcur : s.cur < 0xC#4) :
    Sound s :=
  { hv with
    row := by simp [sequencerRow, hp, hcnt, hcur]
    done_idle := fun _ => hp
    kse_flags := by simp [hp]
    kse_kr := by simp [hp]
    kse_ek := by simp [hp]
    ksd_flags := by simp [hp]
    ksd_dk := by simp [hp]
    rnd_valid := by simp [hp]
    block_whole := by simp [hp] }

theorem Sound.of_kse {s : State} (hp : s.ph = .kse) (hcnt : s.cnt.toNat ≤ 6)
    (hcur : s.cur = 0x6#4 ∨ s.cur = 0xA#4 ∨ s.cur = 0xB#4) (hdone : s.done = false) (hkw : s.kw = 0xFF#8)
    (hkv : s.kv = false) (hdv : s.dv = false) (hkr : s.kr = rotl128 (keyBits s.key) (25 * s.cnt.toNat % 128))
    (hek : ∀ i : Fin 52, i.val < 8 * s.cnt.toNat → s.ek[i] = (generateEncryptionSubkeys (keyBits s.key))[i])
    (hx : s.cur.getLsbD 3 = true → s.xw = 0xF#4) : Sound s where
  row := by simpa [sequencerRow, hp, BitVec.le_def, or_assoc] using ⟨hcnt, hcur⟩
  done_idle := by simp [hdone]
  dv_kv := by simp [hdv]
  kv_kw := by simp [hkv]
  kv_ek := by simp [hkv]
  dv_dk := by simp [hdv]
  kse_flags := fun _ => ⟨hkw, hkv, hdv⟩
  kse_kr := fun _ => hkr
  kse_ek := fun _ => hek
  ksd_flags := by simp [hp]
  ksd_dk := by simp [hp]
  rnd_valid := by simp [hp]
  block_whole := fun _ => hx

theorem Sound.of_ksd {s : State} (hv : ValidFlags s) (hp : s.ph = .ksd) (hcnt : s.cnt.toNat ≤ 8)
    (hcur : s.cur = 0x7#4 ∨ s.cur = 0xB#4) (hdone : s.done = false) (hkv : s.kv = true) (hdv : s.dv = false)
    (hdk : ∀ k : Fin 52, k.val < 6 * s.cnt.toNat → s.dk[k] = (generateDecryptionSubkeys s.ek)[k])
    (hx : s.cur.getLsbD 3 = true → s.xw = 0xF#4) : Sound s :=
  { hv with
    row := by simpa [sequencerRow, hp, BitVec.le_def] using ⟨hcnt, hcur⟩
    done_idle := by simp [hdone]
    kse_flags := by simp [hp]
    kse_kr := by simp [hp]
    kse_ek := by simp [hp]
    ksd_flags := fun _ => ⟨hkv, hdv⟩
    ksd_dk := fun _ => hdk
    rnd_valid := by simp [hp]
    block_whole := fun _ => hx }

theorem Sound.of_rnd {s : State} (hv : ValidFlags s) (hp : s.ph = .rnd) (hcnt : s.cnt.toNat ≤ 8)
    (hcur : s.cur = 0x8#4 ∨ s.cur = 0x9#4 ∨ s.cur = 0xA#4 ∨ s.cur = 0xB#4) (hdone : s.done = false)
    (hsel : if s.cur.getLsbD 0 then s.dv = true else s.kv = true) (hx : s.xw = 0xF#4) : Sound s :=
  { hv with
    row := by simpa [sequencerRow, hp, BitVec.le_def, or_assoc] using ⟨hcnt, hcur⟩
    done_idle := by simp [hdone]
    kse_flags := by simp [hp]
    kse_kr := by simp [hp]
    kse_ek := by simp [hp]
    ksd_flags := by simp [hp]
    ksd_dk := by simp [hp]
    rnd_valid := fun _ => hsel
    block_whole := fun _ _ => hx }

/-- Starting `KSE` from a whole key (41_key_scheduler.md R136). -/
theorem startKse_sound {s : State} (hkw : s.kw = 0xFF#8) (hdone : s.done = false)
    (hcur : s.cur = 0x6#4 ∨ s.cur = 0xA#4 ∨ s.cur = 0xB#4) (hx : s.cur.getLsbD 3 = true → s.xw = 0xF#4) :
    Sound s.startKse :=
  .of_kse rfl (by simp) hcur hdone hkw rfl rfl (by simp [rotl128, BitVec.ushiftRight_eq_zero]) (by simp) hx

/-- Starting `KSD` with `EK` valid (41_key_scheduler.md R139). -/
theorem startKsd_sound {s : State} (hv : ValidFlags s) (hkv : s.kv = true) (hdone : s.done = false)
    (hcur : s.cur = 0x7#4 ∨ s.cur = 0xB#4) (hx : s.cur.getLsbD 3 = true → s.xw = 0xF#4) : Sound s.startKsd :=
  .of_ksd { hv with dv_kv := nofun, dv_dk := nofun } rfl (by simp) hcur hdone hkv rfl (by simp) hx

/-- Starting `RND` with the selected store valid and the block whole (42_round_engine.md R157). -/
theorem startRnd_sound {s : State} (hv : ValidFlags s) (hdone : s.done = false)
    (hcur : s.cur = 0x8#4 ∨ s.cur = 0x9#4 ∨ s.cur = 0xA#4 ∨ s.cur = 0xB#4)
    (hsel : if s.cur.getLsbD 0 then s.dv = true else s.kv = true) (hx : s.xw = 0xF#4) : Sound s.startRnd :=
  .of_rnd { hv with } rfl (by simp) hcur hdone hsel hx

/-- Completing a command (43_control.md R183). -/
theorem complete_sound {s : State} (hv : ValidFlags s) (hcur : s.cur < 0xC#4) : Sound s.complete :=
  .of_idle { hv with } rfl rfl hcur

/-- The row of phase `IDLE` (43_control.md R182). -/
theorem Sound.idle_row {s : State} (h : Sound s) (hp : s.ph = .idle) : s.cnt = 0#4 ∧ s.cur < 0xC#4 := by
  simpa [sequencerRow, hp] using h.row

/-- The commands that pass through phase `KSE` (43_control.md R182). -/
theorem Sound.kse_cur {s : State} (h : Sound s) (hp : s.ph = .kse) : s.cur = 0x6#4 ∨ s.cur = 0xA#4 ∨ s.cur = 0xB#4 := by
  have hrow := h.row
  simp only [sequencerRow, hp, Bool.and_eq_true, Bool.or_eq_true, beq_iff_eq, or_assoc] at hrow
  exact hrow.2

/-- The commands that pass through phase `KSD` (43_control.md R182). -/
theorem Sound.ksd_cur {s : State} (h : Sound s) (hp : s.ph = .ksd) : s.cur = 0x7#4 ∨ s.cur = 0xB#4 := by
  have hrow := h.row
  simp only [sequencerRow, hp, Bool.and_eq_true, Bool.or_eq_true, beq_iff_eq] at hrow
  exact hrow.2

/-- The commands that pass through phase `RND` (43_control.md R182): the round engine commands, whose opcodes have bit 3 set. -/
theorem Sound.rnd_cur {s : State} (h : Sound s) (hp : s.ph = .rnd) :
    s.cur = 0x8#4 ∨ s.cur = 0x9#4 ∨ s.cur = 0xA#4 ∨ s.cur = 0xB#4 := by
  have hrow := h.row
  simp only [sequencerRow, hp, Bool.and_eq_true, Bool.or_eq_true, beq_iff_eq, or_assoc] at hrow
  exact hrow.2

/-- 10_state.md R32: `DONE` is 0 outside phase `IDLE`. -/
theorem Sound.done_eq_false {s : State} (h : Sound s) (hp : s.ph ≠ .idle) : s.done = false :=
  Bool.eq_false_iff.2 fun hd => hp (h.done_idle hd)

/-- Inside a phase `CNT` does not wrap. -/
theorem count_cnt_toNat {s : State} (h : s.cnt.toNat < 15) : s.count.cnt.toNat = s.cnt.toNat + 1 := by
  rw [State.count_cnt, BitVec.toNat_add_of_lt (by simpa using Nat.succ_lt_succ h)]
  rfl

/-! ### Core steps -/

/-- The words of `EK` that are final after a core step of `KSE` (60_exceptions.md R206). -/
theorem Sound.kseData_ek {s : State} (h : Sound s) (hp : s.ph = .kse) (i : Fin 52) (hi : i.val < 8 * (s.cnt.toNat + 1)) :
    s.kseData.ek[i] = (generateEncryptionSubkeys (keyBits s.key))[i] := by
  rw [State.kseData_ek, h.kse_kr hp]
  exact kseWrite_extends (h.kse_ek hp) i hi

/-- The words of `DK` that are final after a core step of `KSD` (60_exceptions.md R206). -/
theorem Sound.ksdData_dk {s : State} (h : Sound s) (hp : s.ph = .ksd) (k : Fin 52) (hk : k.val < 6 * (s.cnt.toNat + 1)) :
    s.ksdData.dk[k] = (generateDecryptionSubkeys s.ek)[k] :=
  ksdWrite_extends (h.ksd_dk hp) k hk

/-- The last core step of `KSE` makes `KV` true of `EK` (41_key_scheduler.md R137). -/
theorem Sound.kseData_setKv_validFlags {s : State} (h : Sound s) (hp : s.ph = .kse) (hcnt : s.cnt.toNat = 6) :
    ValidFlags s.kseData.setKv := by
  obtain ⟨hkw, _, hdv⟩ := h.kse_flags hp
  have hek : s.kseData.ek = generateEncryptionSubkeys (keyBits s.key) :=
    subkeys_eq_of_getElem_eq (n := 8 * (s.cnt.toNat + 1)) (by omega) (h.kseData_ek hp)
  exact { dv_kv := fun _ => rfl, kv_kw := fun _ => hkw, kv_ek := fun _ => hek, dv_dk := by simp [hdv] }

/-- The last core step of `KSD` makes `DV` true of `DK` (41_key_scheduler.md R140). -/
theorem Sound.ksdData_setDv_validFlags {s : State} (h : Sound s) (hp : s.ph = .ksd) (hcnt : s.cnt.toNat = 8) :
    ValidFlags s.ksdData.setDv := by
  have hdk : s.ksdData.dk = generateDecryptionSubkeys s.ek :=
    subkeys_eq_of_getElem_eq (n := 6 * (s.cnt.toNat + 1)) (by omega) (h.ksdData_dk hp)
  exact { h.validFlags with dv_kv := fun _ => (h.ksd_flags hp).1, dv_dk := fun _ => hdk }

theorem Sound.kseData_count {s : State} (h : Sound s) (hp : s.ph = .kse) (hcnt : s.cnt.toNat < 6) :
    Sound s.kseData.count := by
  have hne : s.ph ≠ .idle := by simp [hp]
  obtain ⟨hkw, hkv, hdv⟩ := h.kse_flags hp
  have hc : s.kseData.count.cnt.toNat = s.cnt.toNat + 1 := count_cnt_toNat (s := s.kseData) (by simp; omega)
  refine .of_kse hp (by omega) (h.kse_cur hp) (h.done_eq_false hne) hkw hkv hdv ?_ ?_ (h.block_whole hne)
  · rw [hc]
    calc rotl128 s.kr 25 = rotl128 (rotl128 (keyBits s.key) (25 * s.cnt.toNat % 128)) 25 := by rw [h.kse_kr hp]
      _ = rotl128 (keyBits s.key) (25 * (s.cnt.toNat + 1) % 128) := by
        rw [rotl128_rotl128 _ (Nat.mod_lt _ (by decide)) (by decide), Nat.mod_add_mod, Nat.mul_succ]
  · rw [hc]
    exact h.kseData_ek hp

theorem Sound.ksdData_count {s : State} (h : Sound s) (hp : s.ph = .ksd) (hcnt : s.cnt.toNat < 8) :
    Sound s.ksdData.count := by
  have hne : s.ph ≠ .idle := by simp [hp]
  obtain ⟨hkv, hdv⟩ := h.ksd_flags hp
  have hc : s.ksdData.count.cnt.toNat = s.cnt.toNat + 1 := count_cnt_toNat (s := s.ksdData) (by simp; omega)
  refine .of_ksd { h.validFlags with dv_dk := by simp [hdv] } hp (by omega) (h.ksd_cur hp) (h.done_eq_false hne) hkv hdv ?_
    (h.block_whole hne)
  rw [hc]
  exact h.ksdData_dk hp

theorem Sound.rndData_count {s : State} (h : Sound s) (hp : s.ph = .rnd) (hcnt : s.cnt.toNat < 8) :
    Sound s.rndData.count := by
  have hne : s.ph ≠ .idle := by simp [hp]
  have hc : s.rndData.count.cnt.toNat = s.cnt.toNat + 1 := count_cnt_toNat (s := s.rndData) (by simp; omega)
  have hx : s.xw = 0xF#4 := h.block_whole hne (by rcases h.rnd_cur hp with h | h | h | h <;> simp [h])
  exact .of_rnd { h.validFlags with } hp (by omega) (h.rnd_cur hp) (h.done_eq_false hne) (h.rnd_valid hp) hx

theorem coreStep_sound {s t : State} (h : Sound s) (hstep : coreStep s = .next t) : Sound t := by
  have hne : s.ph ≠ .idle := fun hi => by simp [coreStep, hi] at hstep
  have hdone := h.done_eq_false hne
  have hblock := h.block_whole hne
  rcases coreStep_cases hstep with ⟨hp, hc, rfl⟩ | ⟨hp, hc, hcur, rfl⟩ | ⟨hp, hc, hcur, rfl⟩ | ⟨hp, hc, hcur, rfl⟩ |
    ⟨hp, hc, rfl⟩ | ⟨hp, hc, hcur, rfl⟩ | ⟨hp, hc, hcur, rfl⟩ | ⟨hp, hc, rfl⟩ | ⟨hp, hc, rfl⟩
  · exact h.kseData_count hp hc
  · exact complete_sound (h.kseData_setKv_validFlags hp hc) (by simp [hcur])
  · exact startRnd_sound (h.kseData_setKv_validFlags hp hc) hdone (by simp [hcur]) (by simp [hcur]) (hblock (by simp [hcur]))
  · exact startKsd_sound (h.kseData_setKv_validFlags hp hc) rfl hdone (by simp [hcur]) hblock
  · exact h.ksdData_count hp hc
  · exact complete_sound (h.ksdData_setDv_validFlags hp hc) (by simp [hcur])
  · exact startRnd_sound (h.ksdData_setDv_validFlags hp hc) hdone (by simp [hcur]) (by simp [hcur]) (hblock (by simp [hcur]))
  · exact h.rndData_count hp hc
  · exact complete_sound { h.validFlags with } (by rcases h.rnd_cur hp with h | h | h | h <;> simp [h])

/-! ### Host lines -/

/-- A reset from any state is sound: the core is idle and both valid flags are 0. -/
theorem resetCore_sound (s : State) : Sound s.resetCore :=
  .of_idle { dv_kv := nofun, kv_kw := nofun, kv_ek := nofun, dv_dk := nofun } rfl rfl (by simp [State.reset])

/-- Settles O54: the reset state is the reset of itself. -/
theorem soundAfterReset : Obligations.SoundAfterReset := resetCore_sound State.reset

/-- An accepted command starts a phase in a sound state, or completes at once (43_control.md R181). -/
theorem startOf_sound {i : Instr} {s : State} (h : Sound s) (ha : acceptedByRule i s) :
    Sound (startOf i (s.clearDone.accept i)) := by
  have hv : ValidFlags (s.clearDone.accept i) := { h.validFlags with }
  cases i
  case nop => exact complete_sound hv (by simp [Instr.opcode])
  case xor | add | addinv | mul | mulinv => exact complete_sound { hv with } (by simp [Instr.opcode])
  case ekgen => exact startKse_sound ha rfl (.inl rfl) (by simp [Instr.opcode])
  case encrypt => exact startKse_sound ha.1 rfl (.inr (.inl rfl)) fun _ => ha.2
  case decrypt => exact startKse_sound ha.1 rfl (.inr (.inr rfl)) fun _ => ha.2
  case dkgen => exact startKsd_sound hv ha rfl (.inl rfl) (by simp [Instr.opcode])
  case xformE => exact startRnd_sound hv rfl (.inl rfl) (by simpa [Instr.opcode] using ha.1) ha.2
  case xformD => exact startRnd_sound hv rfl (.inr (.inl rfl)) (by simpa [Instr.opcode] using ha.1) ha.2

theorem LineEffect.sound {l : HostLine} {s t : State} (h : Sound s) (hl : LineEffect s l t) : Sound t := by
  cases hl with
  | reset => exact resetCore_sound s
  | inert _ d e lines log hd => exact { h with done_idle := fun hd' => h.done_idle (hd hd') }
  | acknowledge v => exact { h with }
  | writeKey j v hp =>
    obtain ⟨hcnt, hcur⟩ := h.idle_row hp
    exact .of_idle { dv_kv := nofun, kv_kw := nofun, kv_ek := nofun, dv_dk := nofun } hp hcnt hcur
  | writeX j v hp =>
    obtain ⟨hcnt, hcur⟩ := h.idle_row hp
    exact .of_idle { h.validFlags with } hp hcnt hcur
  | writeOpa v | writeOpb v => exact { h with }
  | command i _ ha => exact startOf_sound h ha

/-- Settles O55, by the effects of a step: the host agent's own fields play no part in soundness. -/
theorem everyStepKeepsSound : Obligations.EveryStepKeepsSound := by
  intro s t h hstep
  have hagent (lines : List HostLine) (ts : List Agent) : Sound { s with host := lines, turns := ts } := { h with }
  rcases step_effect hstep with rfl | ⟨l, rest, ts, _, _, hl⟩ | ⟨ts, _, hc⟩
  · exact h
  · exact hl.sound (hagent rest ts)
  · exact coreStep_sound (hagent s.host ts) hc

end Sys2Proof.Machine
end

section
/-! PROOF. The host's accesses through the register map (20_memory.md R51 to R62): one equation per check of a host write, the two
halves of the map as the statements write them, the write of a command word as the pseudocode of 43_control.md R181, and byte
buffers bit by bit. -/

namespace Sys2Proof.Machine

/-! ### Host writes, one equation per check of R53 -/

theorem hostWrite_status (s : State) (v : Word) : hostWrite s (addrOfReg .status) v = .next (s.acknowledge v) :=
  if_pos rfl

/-- An address with no writable register raises `E_ADDR`, busy or not. -/
theorem hostWrite_unwritable {a : Addr} (h : ∀ r, regOfAddr a = some r → regReadOnly r = true) (s : State) (v : Word) :
    hostWrite s a v = .next (s.raise .addr) := by
  have ha : a ≠ addrOfReg .status := fun e => by simpa [regReadOnly] using h .status (e ▸ regOfAddr_addrOfReg .status)
  rw [hostWrite, if_neg ha]
  cases hr : regOfAddr a with
  | none => rfl
  | some r => simp [h r hr]

/-- A write of a writable register is dropped with `E_BUSY` while busy, and performed else. -/
theorem hostWrite_writable {r : Reg} (hro : regReadOnly r = false) (hst : r ≠ .status) (s : State) (v : Word) :
    hostWrite s (addrOfReg r) v = if s.busy then .next (s.raise .busy) else writeReg s r v := by
  rw [hostWrite, if_neg (addrOfReg_injective.ne hst), regOfAddr_addrOfReg]
  simp [hro]

theorem hostWrite_busy {r : Reg} (hro : regReadOnly r = false) (hst : r ≠ .status) {s : State} (hp : s.ph ≠ .idle)
    (v : Word) : hostWrite s (addrOfReg r) v = .next (s.raise .busy) := by
  rw [hostWrite_writable hro hst, if_pos ((busy_eq_true_iff s).2 hp)]

theorem hostWrite_idle {r : Reg} (hro : regReadOnly r = false) (hst : r ≠ .status) {s : State} (hp : s.ph = .idle)
    (v : Word) : hostWrite s (addrOfReg r) v = writeReg s r v := by
  rw [hostWrite_writable hro hst, (busy_eq_false_iff s).2 hp]
  rfl

/-! ### The map of R51 -/

/-- The unmapped addresses, by the branches of the map; from 0x13 on only the last of them are left. -/
theorem regOfAddr_eq_none_iff (a : Addr) : regOfAddr a = none ↔ unmappedByRule a.toNat := by
  have hlt := a.isLt
  unfold regOfAddr unmappedByRule
  rcases Nat.lt_or_ge a.toNat 0x13 with hlow | hhigh
  · grind
  · simp (disch := omega) only [dif_neg, if_neg]
    grind

/-- The read-only addresses, by the same branches. -/
theorem regOfAddr_any_readOnly_iff (a : Addr) : (regOfAddr a).any regReadOnly = true ↔ readOnlyByRule a.toNat := by
  unfold regOfAddr readOnlyByRule
  rcases Nat.lt_or_ge a.toNat 0x13 with hlow | hhigh
  · grind [regReadOnly]
  · simp (disch := omega) only [dif_neg, if_neg]
    grind [regReadOnly]

/-- The addresses a host write refuses are those that name no writable register. -/
theorem refusedByRule_iff (a : Addr) :
    unmappedByRule a.toNat ∨ readOnlyByRule a.toNat ↔ ∀ r, regOfAddr a = some r → regReadOnly r = true := by
  rw [← regOfAddr_eq_none_iff, ← regOfAddr_any_readOnly_iff]
  cases regOfAddr a <;> simp

theorem addrOfReg_key (j : Fin 8) : addrOfReg (.key j) = BitVec.ofNat 8 j.val := by simp [addrOfReg]

/-- An address is known by its number, here that of a `KEYj`. -/
theorem eq_addrOfReg_key {a : Addr} {j : Fin 8} (h : a.toNat = j.val) : a = addrOfReg (.key j) := by
  rw [addrOfReg_key, ← h, BitVec.ofNat_toNat, BitVec.setWidth_eq]

/-- An address is known by its number, here that of an `Xj`. -/
theorem eq_addrOfReg_x {a : Addr} {j : Fin 4} (h : a.toNat = 8 + j.val) : a = addrOfReg (.x j) := by
  rw [addrOfReg, ← h, BitVec.ofNat_toNat, BitVec.setWidth_eq]

/-! ### Data registers and STATUS -/

/-- Setting bit `j` of a mask. -/
theorem getLsbD_or_bit {w : Nat} (m : BitVec w) (i j : Fin w) :
    (m ||| 1#w <<< j.val).getLsbD i = if i = j then true else m.getLsbD i := by
  have hbit : (1#w <<< j.val).getLsbD i = (decide (j.val < w) && decide (j.val = i)) := BitVec.getLsbD_twoPow j.val i
  rw [BitVec.getLsbD_or, hbit]
  grind

theorem blockWord_blockSet (b : Block) (i j : Fin 4) (v : Word) :
    blockWord (blockSet b j v) i = if i = j then v else blockWord b i := by
  fin_cases j <;> fin_cases i <;> rfl

/-- Settles O40: a write of a data register while idle is the state update R54 to R56 name. -/
theorem dataRegisterWrites : Obligations.DataRegisterWrites := by
  refine ⟨fun s j v hp => ⟨s.key.set j v, s.kw ||| 1#8 <<< j.val, fun i => ?_, fun i => getLsbD_or_bit s.kw i j, ?_⟩,
    fun s j v hp => ⟨blockSet s.x j v, s.xw ||| 1#4 <<< j.val, fun i => blockWord_blockSet s.x i j v,
      fun i => getLsbD_or_bit s.xw i j, hostWrite_idle (r := .x j) rfl nofun hp v⟩,
    fun s v hp => ⟨hostWrite_idle (r := .opa) rfl nofun hp v, hostWrite_idle (r := .opb) rfl nofun hp v⟩⟩
  · simp [Vector.getElem_set, Fin.ext_iff, eq_comm]
  · rw [← addrOfReg_key]
    exact hostWrite_idle (r := .key j) rfl nofun hp v

/-- Settles O41: the acknowledgement is the write of STATUS in every state, and its field is bits 13:8 of the value. -/
theorem statusWriteClearsNamedErrors : Obligations.StatusWriteClearsNamedErrors := by
  intro s v
  refine ⟨s.err &&& ~~~statusClearField v, hostWrite_status s v, fun i hi => ?_⟩
  simp [statusClearField, hi]

/-- Settles O42: every address the map names is `addrOfReg` of its register, and the others are the unmapped ones. -/
theorem hostReadByMap : Obligations.HostReadByMap := by
  refine ⟨fun s j => ?_, fun s => ?_, fun s j => readValue_addrOfReg s (.kr j), fun s i => readValue_addrOfReg s (.ek i),
    fun s i => readValue_addrOfReg s (.dk i), fun s a ha => ?_, fun s a ha => ?_⟩
  · rw [← addrOfReg_key]
    exact readValue_addrOfReg s (.key j)
  · exact ⟨rfl, rfl, rfl, rfl, rfl, rfl, rfl, rfl, rfl, rfl, rfl⟩
  · rw [← regOfAddr_eq_none_iff] at ha
    rcases readState_cases s a with ⟨_, hs⟩ | ⟨hr, _⟩
    · exact hs
    · exact absurd hr ha
  · rw [← regOfAddr_eq_none_iff] at ha
    exact ⟨by rw [readValue, ha], by rw [readState, ha]; rfl⟩

/-! ### The write of a command word, as 43_control.md R181 writes it -/

/-- The opcodes that are reserved (30_encoding.md R83). -/
theorem reserved_of_decodeOp {op : BitVec 4} {r : Illegal} (h : decodeOp op = .illegal r) : 0xC ≤ op.toNat := by
  revert op
  cases r <;> decide

/-- An illegal word fails one of the two checks of R83, here on numbers. -/
theorem illegal_of_decode {w : Word} {r : Illegal} (h : decode w = .illegal r) :
    w.toNat / 16 ≠ 0 ∨ w.toNat % 16 ≥ 0xC := by
  unfold decode at h
  split at h
  case isTrue =>
    have hop : w.opField.toNat = w.toNat % 16 := by simp [Word.opField]
    exact .inr (hop ▸ reserved_of_decodeOp h)
  case isFalse hz =>
    refine .inl fun h0 => hz ?_
    simp [Word.zeroFieldOk, Word.zeroField, ← BitVec.toNat_inj, Nat.shiftRight_eq_div_pow, h0]

theorem acceptByRule_illegal {w : Word} {r : Illegal} (h : decode w = .illegal r) (s : State) :
    acceptByRule s w = s.clearDone.raise .illcmd :=
  if_pos (illegal_of_decode h)

theorem needEk_eq (s : State) : needEk s = if s.kv = false then some .subkeys else none := by
  cases h : s.kv <;> simp [needEk, h]

theorem needDk_eq (s : State) : needDk s = if s.dv = false then some .subkeys else none := by
  cases h : s.dv <;> simp [needDk, h]

/-- On the word of a command R181 makes that command's check and, when it passes, its start. -/
theorem acceptByRule_encode (i : Instr) (s : State) : acceptByRule s (encode i) =
    (checkOf i s).elim (startOf i (s.clearDone.accept i)) s.clearDone.raise := by
  have hop : (encode i).toNat = i.opcode.toNat := by cases i <;> rfl
  cases i
  case nop | xor | add | addinv | mul | mulinv => rfl
  all_goals -- the tests on the opcode evaluate; the ones left are the command's own check
    simp [acceptByRule, hop, Instr.opcode, checkOf, firstOf, needKey, keyComplete, needEk_eq, needDk_eq, needBlock,
      blockComplete]
    split_ifs <;> rfl

/-- A command word written while idle does what the pseudocode of R181 says. -/
theorem acceptWord_eq_acceptByRule {s : State} (hp : s.ph = .idle) (w : Word) :
    acceptWord s w = .next (acceptByRule s w) := by
  have hb := (busy_eq_false_iff s).2 hp
  rcases acceptWord_cases (s := s) (w := w) rfl with ⟨i, hd, he⟩ | ⟨r, hd, he⟩
  · obtain rfl := eq_encode_of_decode hd
    rw [he, exec_eq_issue, acceptByRule_encode]
    cases hc : checkOf i s with
    | some c => exact issue_refused hb hc
    | none => exact issue_accepted hb hc
  · rw [he, acceptByRule_illegal hd]

/-- Settles O39: the two halves of the map say which check applies, and a command word does what `Accept` of R181 says. -/
theorem hostWriteChecksInOrder : Obligations.HostWriteChecksInOrder := by
  intro s a v
  refine ⟨?_, fun h => hostWrite_unwritable ((refusedByRule_iff a).1 h) s v, fun hst h hp => ?_, fun hp j ha => ?_,
    fun hp j ha => ?_, ?_, ?_, ?_⟩
  · rintro rfl
    exact hostWrite_status s v
  · rw [refusedByRule_iff] at h
    push Not at h
    obtain ⟨r, hr, hro⟩ := h
    obtain rfl := addrOfReg_of_regOfAddr hr
    exact hostWrite_busy (by simpa using hro) (ne_of_apply_ne addrOfReg hst) hp v
  · rw [eq_addrOfReg_key ha]
    exact hostWrite_idle (r := .key j) rfl nofun hp v
  · rw [eq_addrOfReg_x ha]
    exact hostWrite_idle (r := .x j) rfl nofun hp v
  · rintro hp rfl
    exact hostWrite_idle (r := .opa) rfl nofun hp v
  · rintro hp rfl
    exact hostWrite_idle (r := .opb) rfl nofun hp v
  · rintro hp rfl
    exact (hostWrite_idle (r := .cmd) rfl nofun hp v).trans (acceptWord_eq_acceptByRule hp v)

/-! ### Byte buffers -/

theorem numberOfBytes_concat (bytes : List (BitVec 8)) (b : BitVec 8) :
    numberOfBytes (bytes ++ [b]) = 2 ^ 8 * numberOfBytes bytes + b.toNat := by
  simp [numberOfBytes, Nat.mul_comm]

/-- Byte `i` of a buffer of `N` supplies bits `8(N-1-i)+7 : 8(N-1-i)` of the number (R62). -/
theorem numberOfBytes_testBit (bytes : List (BitVec 8)) (i : Nat) (hi : i < bytes.length) {p : Nat} (hp : p < 8) :
    (numberOfBytes bytes).testBit (8 * (bytes.length - 1 - i) + p) = bytes[i].getLsbD p := by
  induction bytes using List.reverseRecOn with
  | nil => simp at hi
  | append_singleton bs b ih =>
    rw [numberOfBytes_concat, Nat.testBit_two_pow_mul_add _ b.isLt]
    simp only [List.length_append, List.length_singleton] at hi ⊢
    by_cases hlast : i = bs.length
    · subst hlast
      simp [hp, BitVec.getLsbD]
    · have hi' : i < bs.length := by omega
      have hpos : 8 * (bs.length + 1 - 1 - i) + p - 8 = 8 * (bs.length - 1 - i) + p := by omega
      rw [if_neg (by omega), hpos, ih hi', List.getElem_append_left hi']

/-- Word `j` of a buffer of `N` bytes, bit by bit: its high byte is byte `2j`, its low byte is byte `2j + 1`. -/
theorem bytesWord_getLsbD {N : Nat} (b : Vector (BitVec 8) N) {j : Nat} (hj : 2 * j + 1 < N) {p : Nat} (hp : p < 16) :
    (BitVec.ofNat (8 * N) (numberOfBytes b.toList)).getLsbD (8 * (N - 2 - 2 * j) + p) =
      (b[2 * j] ++ b[2 * j + 1]).getLsbD p := by
  have hbyte (i q : Nat) (hi : i < N) (hq : q < 8) :
      (numberOfBytes b.toList).testBit (8 * (N - 1 - i) + q) = b[i].getLsbD q := by
    have hlen : b.toList.length = N := Vector.length_toList
    rw [← Vector.getElem_toList (h := by omega), ← numberOfBytes_testBit b.toList i (by omega) hq, hlen]
  rw [BitVec.getLsbD_ofNat, decide_eq_true (by omega), Bool.true_and, BitVec.getLsbD_append]
  split
  case isTrue hlow =>
    rw [← hbyte (2 * j + 1) p hj hlow]
    congr 1
    omega
  case isFalse hhigh =>
    rw [← hbyte (2 * j) (p - 8) (by omega) (by omega)]
    congr 1
    omega

/-- Settles O26: word `j` of the number a buffer makes is made of bytes `2j` and `2j + 1`. -/
theorem byteBuffersAreBigEndian : Obligations.ByteBuffersAreBigEndian := by
  refine ⟨fun b j => BitVec.eq_of_getLsbD_eq fun p hp => ?_, fun b j => BitVec.eq_of_getLsbD_eq fun p hp => ?_⟩
  · have hpos : 48 - 16 * j.val + p = 8 * (8 - 2 - 2 * j.val) + p := by omega
    rw [blockWord_blockOfBits_getLsbD _ j hp, hpos]
    exact bytesWord_getLsbD b (by omega) hp
  · have hpos : 112 - 16 * j.val + p = 8 * (16 - 2 - 2 * j.val) + p := by omega
    rw [seg_getLsbD _ j hp, hpos]
    exact bytesWord_getLsbD b (by omega) hp

end Sys2Proof.Machine
end

section
/-! PROOF. The two agents (20_memory.md R67, R71): which one a step moves, what a step is for each kind of line when it is the host's,
and that while the core is busy the host's accesses touch only `ERR` and the host agent's own fields, which no core step reads. -/

namespace Sys2Proof.Machine

/-! ### Who moves -/

theorem takeTurn_of_no_line {s : State} (hh : s.host = []) : s.takeTurn = s := by
  simp [State.takeTurn, State.contended, hh]

theorem takeTurn_contended {s : State} (hp : s.ph ≠ .idle) (hh : s.host ≠ []) :
    s.takeTurn = { s with turns := s.turns.tail } := by
  simp [State.takeTurn, State.contended, State.busy, hp, hh]

theorem mover_busy_no_line {s : State} (hp : s.ph ≠ .idle) (hh : s.host = []) : mover s = some .core := by
  simp [mover, State.busy, hp, hh]

theorem mover_contended {s : State} (hp : s.ph ≠ .idle) (hh : s.host ≠ []) : mover s = some (s.turns.headD .core) := by
  simp [mover, State.busy, hp, hh]

theorem mover_idle_line {s : State} (hp : s.ph = .idle) (hh : s.host ≠ []) : mover s = some .host := by
  simp [mover, State.busy, hp, hh]

theorem mover_quiescent {s : State} (hp : s.ph = .idle) (hh : s.host = []) : mover s = none := by
  simp [mover, State.busy, hp, hh]

theorem busy_of_mover_core {s : State} (h : mover s = some .core) : s.ph ≠ .idle := by
  intro hp
  by_cases hh : s.host = []
  · simp [mover_quiescent hp hh] at h
  · simp [mover_idle_line hp hh] at h

theorem step_of_mover_core {s : State} (h : mover s = some .core) : step s = coreStep s.takeTurn := by
  simp [step, transition, h]

theorem step_of_mover_host {s : State} (h : mover s = some .host) : step s = hostMove s.takeTurn := by
  simp [step, transition, h]

theorem step_of_mover_none {s : State} (h : mover s = none) : step s = .next s := by
  simp [step, transition, h]

/-- With both agents able to move, a turn of the core's, or none left, is a core step. -/
theorem step_core_turn {s : State} (hp : s.ph ≠ .idle) (hh : s.host ≠ []) (ht : s.turns.headD .core = .core) :
    step s = coreStep { s with turns := s.turns.tail } := by
  rw [step_of_mover_core ((mover_contended hp hh).trans (congrArg some ht)), takeTurn_contended hp hh]

/-- With both agents able to move, a turn of the host's is its next line. -/
theorem step_host_turn {s : State} (hp : s.ph ≠ .idle) (hh : s.host ≠ []) (ht : s.turns.headD .core = .host) :
    step s = hostMove { s with turns := s.turns.tail } := by
  rw [step_of_mover_host ((mover_contended hp hh).trans (congrArg some ht)), takeTurn_contended hp hh]

/-- Settles O53: the mover, and the turn it uses up, in each of the four combinations of which agents can move. -/
theorem agentsInterleaveByTurns : Obligations.AgentsInterleaveByTurns := by
  refine ⟨fun s => busy_of_mover_core, fun s hp hh => ?_, fun s ts hp hh => ⟨?_, ?_, ?_⟩, fun s hp hh => ?_,
    fun s hp hh => step_of_mover_none (mover_quiescent hp hh)⟩
  · rw [step_of_mover_core (mover_busy_no_line hp hh), takeTurn_of_no_line hh]
  · exact step_core_turn (s := { s with turns := .core :: ts }) hp hh rfl
  · exact step_host_turn (s := { s with turns := .host :: ts }) hp hh rfl
  · exact step_core_turn (s := { s with turns := [] }) hp hh rfl
  · rw [step_of_mover_host (mover_idle_line hp hh), takeTurn_idle ((busy_eq_false_iff s).2 hp)]

/-! ### What a step is when the host moves -/

/-- A `WAIT` ends while idle and stays pending while busy (30_encoding.md R86). -/
theorem performLine_wait (s : State) :
    performLine .wait s = .next (if s.busy then { s with host := .wait :: s.host } else s) := by
  have hread : (readValue s (addrOfReg .status)).getLsbD 0 = s.busy := by
    rw [readValue_addrOfReg]
    exact statusWord_getLsbD s 0
  simp only [performLine, hread, readState_addrOfReg]
  cases s.busy <;> rfl

theorem performLine_wait_idle {s : State} (hp : s.ph = .idle) : performLine .wait s = .next s := by
  rw [performLine_wait, (busy_eq_false_iff s).2 hp]
  rfl

theorem performLine_wait_busy {s : State} (hp : s.ph ≠ .idle) :
    performLine .wait s = .next { s with host := .wait :: s.host } := by
  rw [performLine_wait, (busy_eq_true_iff s).2 hp]
  rfl

theorem acceptWord_of_decode {w : Word} {i : Instr} (h : decode w = .ok i) (s : State) : acceptWord s w = exec i s := by
  simp [acceptWord, h]

/-- Settles O50: each clause is `performLine` of one kind of line, on the state with the line and a used turn taken off. -/
theorem stepRunsTheDecodedCommand : Obligations.StepRunsTheDecodedCommand := by
  have hidle {s : State} {l : HostLine} {rest : List HostLine} (hh : s.host = l :: rest) (hp : s.ph = .idle) :
      step s = performLine l { s with host := rest } := step_line_idle ((busy_eq_false_iff s).2 hp) hh
  have hbusy {s : State} {l : HostLine} {rest : List HostLine} (hh : s.host = l :: rest) (ts : List Agent) (hp : s.ph ≠ .idle)
      (ht : s.turns = .host :: ts) : step s = performLine l { s with host := rest, turns := ts } :=
    step_line_busy ((busy_eq_true_iff s).2 hp) hh ht
  refine ⟨fun s i w rest hp hh hd => ?_, fun s a v rest hh => ⟨hidle hh, hbusy hh⟩,
    fun s a rest hh => ⟨hidle hh, hbusy hh⟩, fun s rest hh => ⟨fun hp => ?_, fun ts hp ht => ?_⟩,
    fun s rest hh => ⟨hidle hh, hbusy hh⟩⟩
  · calc step s = hostWrite { s with host := rest } (addrOfReg .cmd) w := hidle hh hp
      _ = acceptWord { s with host := rest } w := hostWrite_idle (r := .cmd) (s := { s with host := rest }) rfl nofun hp w
      _ = exec i { s with host := rest } := acceptWord_of_decode hd _
  · exact (hidle hh hp).trans (performLine_wait_idle (s := { s with host := rest }) hp)
  · rw [hh]
    exact (hbusy hh ts hp ht).trans (performLine_wait_busy (s := { s with host := rest, turns := ts }) hp)

/-! ### A command in progress -/

@[simp] theorem State.quiet_ph (s : State) : s.quiet.ph = s.ph := rfl
@[simp] theorem State.quiet_cnt (s : State) : s.quiet.cnt = s.cnt := rfl
@[simp] theorem State.quiet_cur (s : State) : s.quiet.cur = s.cur := rfl

/-- No core step reads `ERR` or the host agent's own fields. -/
theorem coreStep_quiet {s t : State} (h : coreStep s = .next t) : coreStep s.quiet = .next t.quiet := by
  rcases coreStep_cases h with ⟨hp, hc, rfl⟩ | ⟨hp, hc, hcur, rfl⟩ | ⟨hp, hc, hcur, rfl⟩ | ⟨hp, hc, hcur, rfl⟩ |
    ⟨hp, hc, rfl⟩ | ⟨hp, hc, hcur, rfl⟩ | ⟨hp, hc, hcur, rfl⟩ | ⟨hp, hc, rfl⟩ | ⟨hp, hc, rfl⟩
  all_goals -- both sides take the same branch, and its update leaves the fields `quiet` clears alone
    simp [coreStep, kseStep, ksdStep, rndStep, endKse, endKsd, Instr.opcode, *]
    rfl

theorem coreStep_host {s t : State} (h : coreStep s = .next t) : t.host = s.host := by
  rcases coreStep_cases h with
    ⟨_, _, rfl⟩ | ⟨_, _, _, rfl⟩ | ⟨_, _, _, rfl⟩ | ⟨_, _, _, rfl⟩ | ⟨_, _, rfl⟩ | ⟨_, _, _, rfl⟩ | ⟨_, _, _, rfl⟩ |
    ⟨_, _, rfl⟩ | ⟨_, _, rfl⟩ <;> rfl

theorem hostWrite_busy_quiet {s t : State} (hb : s.busy = true) {a : Addr} {v : Word} (h : hostWrite s a v = .next t) :
    t.quiet = s.quiet ∧ t.host = s.host := by
  rcases hostWrite_cases h with ⟨_, ht⟩ | ⟨_, _, ht⟩ | ⟨_, ht⟩ | ⟨hi, _⟩ | ⟨hi, _⟩ | ⟨hi, _⟩ | ⟨hi, _⟩ | ⟨hi, _⟩
  case inl | inr.inl | inr.inr.inl => cases ht; exact ⟨rfl, rfl⟩
  all_goals simp [hb] at hi

/-- While busy a host line other than a reset disturbs nothing a command works on, and brings no reset among the lines pending. -/
theorem performLine_busy_quiet {s t : State} (hp : s.ph ≠ .idle) {l : HostLine} (hl : l ≠ .rst)
    (hr : noReset s.host = true) (h : performLine l s = .next t) : t.quiet = s.quiet ∧ noReset t.host = true := by
  cases l with
  | rst => exact absurd rfl hl
  | wr a v =>
    obtain ⟨hq, hh⟩ := hostWrite_busy_quiet ((busy_eq_true_iff s).2 hp) h
    exact ⟨hq, hh ▸ hr⟩
  | rd a =>
    cases h
    rcases readState_cases s a with ⟨_, hs⟩ | ⟨_, hs⟩ <;> rw [hs] <;> exact ⟨rfl, hr⟩
  | wait =>
    rw [performLine_wait_busy hp] at h
    cases h
    exact ⟨rfl, hr⟩

/-- A step of a busy machine with no reset pending is a core step on what the command works on, or leaves it as it is. -/
theorem step_busy_quiet {s t : State} (hp : s.ph ≠ .idle) (hr : noReset s.host = true) (h : step s = .next t) :
    noReset t.host = true ∧ (t.quiet = s.quiet ∨ coreStep s.quiet = .next t.quiet) := by
  rcases step_cases h with ⟨hb, _⟩ | ⟨l, rest, ts, hh, _, ht⟩ | ⟨ts, _, _, ht⟩
  · exact absurd ((busy_eq_false_iff s).1 hb) hp
  · obtain ⟨hl, hrest⟩ : l ≠ .rst ∧ noReset rest = true := by simpa [noReset, hh] using hr
    obtain ⟨hq, ht⟩ := performLine_busy_quiet (s := { s with host := rest, turns := ts }) hp hl hrest ht.symm
    exact ⟨ht, .inl hq⟩
  · exact ⟨coreStep_host ht.symm ▸ hr, .inr (coreStep_quiet (s := { s with turns := ts }) ht.symm)⟩

/-- A run that answers, by its first step. -/
theorem run_succ_cases {n : Nat} {s t : State} (h : Host.Core.run Sys2Proof.core (n + 1) s = .next t) :
    ∃ u, step s = .next u ∧ Host.Core.run Sys2Proof.core n u = .next t := by
  cases hs : step s with
  | next u => exact ⟨u, rfl, (run_next hs).symm.trans h⟩
  | fault f => cases (run_fault hs).symm.trans h
  | refused r => exact absurd hs (step_ne_refused s r)

/-- Settles O57, by induction on the run: `k` counts the steps that were the core's. -/
theorem hostTrafficCannotDisturbACommand : Obligations.HostTrafficCannotDisturbACommand := by
  intro n
  induction n with
  | zero =>
    intro s t _ _ hrun
    cases hrun
    exact ⟨0, le_rfl, rfl⟩
  | succ n ih =>
    intro s t hr hbusy hrun
    obtain ⟨u, hs, hu⟩ := run_succ_cases hrun
    obtain ⟨hru, hq⟩ := step_busy_quiet (hbusy 0 s (Nat.zero_le _) (run_zero s)) hr hs
    obtain ⟨k, hk, hsteps⟩ := ih u t hru
      (fun m v hm hv => hbusy (m + 1) v (Nat.succ_le_succ hm) ((run_next hs).trans hv)) hu
    rcases hq with hq | hq
    · exact ⟨k, Nat.le_succ_of_le hk, hq ▸ hsteps⟩
    · exact ⟨k + 1, Nat.succ_le_succ hk, by simp only [coreSteps, hq, hsteps]⟩

end Sys2Proof.Machine
end

section
/-! PROOF. The encoding (30_encoding.md sections 1 to 3): the word of a command passes both checks and decodes to it, and the
command words are exactly the words whose number has nothing above its low four bits and those below 0xC. -/

namespace Sys2Proof.Machine

/-! ### Decode and encode -/

open Laws in
/-- The per-instruction family as one fact about every command. -/
theorem encodedWord_statement (i : Instr) : EncodedWord.Statement i := by
  cases i
  exacts [EncodedWord.nop, EncodedWord.xor, EncodedWord.add, EncodedWord.addinv, EncodedWord.mul, EncodedWord.mulinv,
    EncodedWord.ekgen, EncodedWord.dkgen, EncodedWord.xformE, EncodedWord.xformD, EncodedWord.encrypt, EncodedWord.decrypt]

/-- The table of opcodes read both ways (30_encoding.md R81); the converse is `opcode_of_decodeOp`. -/
@[simp] theorem decodeOp_opcode (i : Instr) : decodeOp i.opcode = .ok i := by cases i <;> rfl

/-- A command's word decodes to the command (30_encoding.md R80, R81). -/
@[simp] theorem decode_encode (i : Instr) : decode (encode i) = .ok i := by
  obtain ⟨hwf, hop⟩ := encodedWord_statement i
  have hzero : (encode i).zeroFieldOk = true := (Bool.and_eq_true_iff.1 hwf).1
  rw [decode, if_pos hzero, hop, decodeOp_opcode]

/-- Settles O52: the two checks and the opcode table one way, the two fields of a decoded word the other. -/
theorem decodeAndEncodeAgree : Obligations.DecodeAndEncodeAgree := by
  refine ⟨fun i _ => decode_encode i, fun w i h => ?_⟩
  obtain rfl := eq_encode_of_decode h
  exact ⟨rfl, (encodedWord_statement i).1⟩

/-- Settles O51: each word is a literal, so the decoder evaluates on it. -/
theorem tableWordsDecode : Obligations.TableWordsDecode := by
  unfold Obligations.TableWordsDecode
  decide

/-! ### Which words are commands -/

theorem encode_toNat_lt (i : Instr) : (encode i).toNat < 0xC := by cases i <;> decide

/-- The command words on numbers (30_encoding.md R83). -/
theorem exists_decode_ok_iff (w : Word) :
    (∃ i, decode w = .ok i) ↔ w.toNat / 16 = 0 ∧ w.toNat % 16 < 0xC := by
  constructor
  · rintro ⟨i, h⟩
    obtain rfl := eq_encode_of_decode h
    have := encode_toNat_lt i
    omega
  · intro hw
    cases h : decode w with
    | ok i => exact ⟨i, rfl⟩
    | illegal r => have := illegal_of_decode h; omega

/-- The write of CMD while idle is the acceptance of the word (20_memory.md R57). -/
theorem hostWrite_cmd_idle {s : State} (hp : s.ph = .idle) (w : Word) :
    hostWrite s (addrOfReg .cmd) w = acceptWord s w :=
  hostWrite_idle (r := .cmd) rfl nofun hp w

/-- A command issued while idle whose check passes is started (43_control.md R181). -/
theorem exec_accepted {i : Instr} {s : State} (hp : s.ph = .idle) (hcheck : checkOf i s = none) :
    exec i s = .next (startOf i (s.clearDone.accept i)) := by
  rw [exec_eq_issue, issue_accepted ((busy_eq_false_iff s).2 hp) hcheck]

/-- Settles O38: an illegal word is refused by the decoder, and 0x0000 is the word of `NOP`, which has no check. -/
theorem everyWordIsACommandOrIllegal : Obligations.EveryWordIsACommandOrIllegal := by
  refine ⟨exists_decode_ok_iff, fun s w hp hw => (hostWrite_cmd_idle hp w).trans ?_,
    fun s hp => (hostWrite_cmd_idle hp _).trans ?_⟩
  · rcases acceptWord_cases (s := s) (w := w) rfl with ⟨i, hi, _⟩ | ⟨r, _, he⟩
    · have := (exists_decode_ok_iff w).1 ⟨i, hi⟩
      omega
    · exact he
  · calc acceptWord s 0x0000#16 = exec .nop s := acceptWord_of_decode (decode_encode .nop) s
      _ = .next (s.clearDone.accept .nop).complete := exec_accepted hp rfl

end Sys2Proof.Machine
end

section
/-! PROOF. The frame of a command's acceptance (30_encoding.md R84, 43_control.md R181): register by register what the updates of
`issue` leave to be read, then the same for every command and every address. -/

namespace Sys2Proof.Machine

/-! ### What a register reads after the updates of `issue` -/

theorem readReg_raise {r : Reg} (hst : r ≠ .status) (s : State) (c : Cause) : readReg (s.raise c) r = readReg s r := by
  cases r
  case status => contradiction
  all_goals rfl

theorem readReg_clearDone {r : Reg} (hst : r ≠ .status) (s : State) : readReg s.clearDone r = readReg s r := by
  cases r
  case status => contradiction
  all_goals rfl

theorem readReg_accept {r : Reg} (hseq : r ≠ .seq) (s : State) (i : Instr) : readReg (s.accept i) r = readReg s r := by
  cases r
  case seq => contradiction
  all_goals rfl

/-- A start changes what STATUS and SEQ read, RES for a primitive command, and `KR0..KR7` where phase `KSE` begins. -/
theorem readReg_startOf {i : Instr} {r : Reg} (hst : r ≠ .status) (hseq : r ≠ .seq)
    (hres : i ∈ [Instr.xor, .add, .addinv, .mul, .mulinv] → r ≠ .res)
    (hkr : i ∈ [Instr.ekgen, .encrypt, .decrypt] → ∀ j, r ≠ .kr j) (s : State) :
    readReg (startOf i s) r = readReg s r := by
  cases r
  case status | seq => contradiction
  case res => exact startOf_res_of_notMem (fun hi => hres hi rfl) s
  case kr j => exact congrArg (seg · j.val) (startOf_kr_of_notMem (fun hi => hkr hi j rfl) s)
  all_goals simp [readReg, masksWord]

/-- What a command can leave (43_control.md R181): it is dropped while busy, refused by a check, or started. -/
theorem exec_cases {i : Instr} {s t : State} (h : exec i s = .next t) :
    t = s.raise .busy ∨ (∃ c, t = s.clearDone.raise c) ∨ t = startOf i (s.clearDone.accept i) := by
  rw [exec_eq_issue] at h
  rcases issue_cases h with ⟨_, ht⟩ | ⟨_, c, _, ht⟩ | ⟨_, _, ht⟩ <;> cases ht
  · exact .inl rfl
  · exact .inr (.inl ⟨c, rfl⟩)
  · exact .inr (.inr rfl)

/-- A command on its three outcomes, register by register. -/
theorem readReg_exec {i : Instr} {s t : State} (h : exec i s = .next t) {r : Reg} (hst : r ≠ .status) (hseq : r ≠ .seq)
    (hres : i ∈ [Instr.xor, .add, .addinv, .mul, .mulinv] → r ≠ .res)
    (hkr : i ∈ [Instr.ekgen, .encrypt, .decrypt] → ∀ j, r ≠ .kr j) : readReg t r = readReg s r := by
  rcases exec_cases h with rfl | ⟨c, rfl⟩ | rfl
  · exact readReg_raise hst s .busy
  · rw [readReg_raise hst, readReg_clearDone hst]
  · rw [readReg_startOf hst hseq hres hkr, readReg_accept hseq, readReg_clearDone hst]

theorem addrOfReg_kr_bounds (j : Fin 8) : 0x18 ≤ (addrOfReg (.kr j)).toNat ∧ (addrOfReg (.kr j)).toNat ≤ 0x1F := by
  revert j
  decide

/-! ### The valid flags, the phase and the host agent's own fields -/

@[simp] theorem startOf_host (i : Instr) (s : State) : (startOf i s).host = s.host := by cases i <;> rfl
@[simp] theorem startOf_turns (i : Instr) (s : State) : (startOf i s).turns = s.turns := by cases i <;> rfl
@[simp] theorem startOf_log (i : Instr) (s : State) : (startOf i s).log = s.log := by cases i <;> rfl

/-- Only the start of phase `KSE` takes `KV` down (41_key_scheduler.md R136). -/
theorem startOf_kv_of_notMem {i : Instr} (h : i ∉ [Instr.ekgen, .encrypt, .decrypt]) (s : State) :
    (startOf i s).kv = s.kv := by
  cases i <;> simp [startOf] at h ⊢

/-- Only the starts of phases `KSE` and `KSD` take `DV` down (41_key_scheduler.md R136, R139). -/
theorem startOf_dv_of_notMem {i : Instr} (h : i ∉ [Instr.ekgen, .dkgen, .encrypt, .decrypt]) (s : State) :
    (startOf i s).dv = s.dv := by
  cases i <;> simp [startOf] at h ⊢

/-- `NOP` and the primitive commands have no check of their own (40_primitives.md R108, 43_control.md R180). -/
theorem checkOf_eq_none_of_mem {i : Instr} (h : i ∈ [Instr.nop, .xor, .add, .addinv, .mul, .mulinv]) (s : State) :
    checkOf i s = none := by
  cases i <;> simp [checkOf, needNothing] at h ⊢

/-- `NOP` and the primitive commands complete at once (40_primitives.md R108, 43_control.md R180). -/
theorem startOf_ph_of_mem {i : Instr} (h : i ∈ [Instr.nop, .xor, .add, .addinv, .mul, .mulinv]) (s : State) :
    (startOf i s).ph = .idle := by
  cases i <;> simp [startOf] at h ⊢

theorem exec_kv_of_notMem {i : Instr} {s t : State} (h : exec i s = .next t)
    (hi : i ∉ [Instr.ekgen, .encrypt, .decrypt]) : t.kv = s.kv := by
  rcases exec_cases h with rfl | ⟨c, rfl⟩ | rfl
  · rfl
  · rfl
  · simp [startOf_kv_of_notMem hi]

theorem exec_dv_of_notMem {i : Instr} {s t : State} (h : exec i s = .next t)
    (hi : i ∉ [Instr.ekgen, .dkgen, .encrypt, .decrypt]) : t.dv = s.dv := by
  rcases exec_cases h with rfl | ⟨c, rfl⟩ | rfl
  · rfl
  · rfl
  · simp [startOf_dv_of_notMem hi]

/-- A command with no check, issued while idle, is accepted: it raises nothing and leaves the machine idle. -/
theorem exec_err_ph_of_mem {i : Instr} {s t : State} (h : exec i s = .next t)
    (hi : i ∈ [Instr.nop, .xor, .add, .addinv, .mul, .mulinv]) (hp : s.ph = .idle) : t.err = s.err ∧ t.ph = s.ph := by
  rw [exec_accepted hp (checkOf_eq_none_of_mem hi s)] at h
  cases h
  exact ⟨by simp, (startOf_ph_of_mem hi _).trans hp.symm⟩

theorem exec_host_turns_log {i : Instr} {s t : State} (h : exec i s = .next t) :
    t.host = s.host ∧ t.turns = s.turns ∧ t.log = s.log := by
  rcases exec_cases h with rfl | ⟨c, rfl⟩ | rfl <;> simp

/-- Settles O47: an unmapped address reads 0 in every state, and a mapped one reads its register. -/
theorem commandAcceptanceFrame : Obligations.CommandAcceptanceFrame := by
  intro i s t h
  refine ⟨fun a hst hseq hres hkr => ?_, exec_kv_of_notMem h, exec_dv_of_notMem h, exec_err_ph_of_mem h,
    exec_host_turns_log h⟩
  cases hr : regOfAddr a with
  | none => simp only [readValue, hr]
  | some r =>
    obtain rfl := addrOfReg_of_regOfAddr hr
    rw [readValue_addrOfReg, readValue_addrOfReg]
    refine readReg_exec h (ne_of_apply_ne addrOfReg hst) (ne_of_apply_ne addrOfReg hseq)
      (fun hi => ne_of_apply_ne addrOfReg (hres hi)) fun hi j => ?_
    rintro rfl
    exact hkr hi (addrOfReg_kr_bounds j)

end Sys2Proof.Machine
end

section
/-! PROOF. The primitives as functions of words (40_primitives.md R100 to R107). The words under `modMul` are read as residues
modulo the prime 65537: the reading is injective, turns `modMul` into the product and `modMulInverse` into an inverse, so that the
group laws of R104 to R106 are those of the residues. -/

namespace Sys2Proof.Machine

/-! ### Exclusive or and the additive group -/

theorem xor16_getLsbD (a b : Word) (i : Nat) : (xor16 a b).getLsbD i = ((a.getLsbD i) ^^ (b.getLsbD i)) :=
  BitVec.getLsbD_xor

/-- The LengthMismatch failure of R100. -/
theorem xorBits_eq_none_iff (a b : List Bool) : xorBits a b = none ↔ a.length ≠ b.length := by
  simp [xorBits]

theorem xorBits_eq_some_iff (a b c : List Bool) :
    xorBits a b = some c ↔ a.length = b.length ∧ List.zipWith Bool.xor a b = c := by
  simp [xorBits]

/-- `xor16` is `xor` at length 16 (R101). -/
theorem xorBits_bitsOfWord (a b : Word) : xorBits (bitsOfWord a) (bitsOfWord b) = some (bitsOfWord (xor16 a b)) := by
  refine (xorBits_eq_some_iff _ _ _).2 ⟨by simp [bitsOfWord], ?_⟩
  simp [bitsOfWord, List.zipWith_map, xor16_getLsbD]

/-- Settles O14: below the common length the bits of `zipWith` are those of the operands. -/
theorem xorOnBitStringsAndWords : Obligations.XorOnBitStringsAndWords := by
  refine ⟨xorBits_eq_none_iff, fun a b c h => ?_, xorBits_bitsOfWord, fun a b i _ => xor16_getLsbD a b i⟩
  obtain ⟨hlen, rfl⟩ := (xorBits_eq_some_iff a b c).1 h
  refine ⟨by simp [hlen], fun i hi => ?_⟩
  simp [List.getD_eq_getElem?_getD, hi, hlen ▸ hi]

/-- Settles O15: the additive primitives are addition and negation of 16-bit words. -/
theorem additivePrimitivesByRule : Obligations.AdditivePrimitivesByRule := by
  refine ⟨fun a b => ?_, fun a b => ?_, fun a => ?_, fun a => ?_, fun a => ?_, by decide⟩
  · rw [modAdd_eq_add, BitVec.toNat_add]
  · rw [modAdd_eq_add, BitVec.ofInt_add, BitVec.ofInt_toInt, BitVec.ofInt_toInt]
  · rw [modAddInverse_eq_neg, BitVec.toNat_neg]
    split <;> omega
  · rw [modAddInverse_eq_neg, BitVec.neg_eq_not_add]
  · rw [modAddInverse_eq_neg, modAddInverse_eq_neg, BitVec.neg_neg]

/-! ### The multiplicative group -/

theorem toGroup_eq (a : Word) : toGroup a = if a = 0#16 then 65536 else a.toNat := by
  simp [toGroup, BitVec.toNat_eq]

/-- Settles O16: the pseudocode of R104 is the definition of `modMul`, and 65537 is prime. -/
theorem modMulByRule : Obligations.ModMulByRule := by
  intro a b
  simp only [← toGroup_eq]
  refine ⟨toGroup_mul_mod_pos a b, ?_, rfl⟩
  have := Nat.mod_lt (toGroup a * toGroup b) (show 0 < 65537 by decide)
  omega

/-- The residue modulo 65537 that a word stands for under the zero convention (R104). -/
def residue (a : Word) : ZMod Config.modMulModulus := toGroup a

theorem residue_injective : Function.Injective residue := by
  intro a b h
  have hmod : toGroup a % 65537 = toGroup b % 65537 := (ZMod.natCast_eq_natCast_iff' _ _ _).1 h
  have := toGroup_le a
  have := toGroup_le b
  exact toGroup_injective (by omega)

@[simp] theorem residue_one : residue 1#16 = 1 := Nat.cast_one

@[simp] theorem residue_modMul (a b : Word) : residue (modMul a b) = residue a * residue b := by
  rw [residue, toGroup_modMul, ZMod.natCast_mod, Nat.cast_mul, residue, residue]

theorem residue_ofGroup {r : Nat} (h1 : 1 ≤ r) (h2 : r ≤ 65536) : residue (ofGroup r) = r := by
  rw [residue, toGroup_ofGroup r h1 h2]

/-- The power loop stays in 1..65536 on a word, since 65537 is prime. -/
theorem powLoop_toGroup_bounds (a : Word) (k : Nat) : 1 ≤ powLoop (toGroup a) k ∧ powLoop (toGroup a) k ≤ 65536 := by
  rw [powLoop_eq]
  have hne : toGroup a ^ (2 ^ k - 1) % Config.modMulModulus ≠ 0 := fun h =>
    not_dvd_toGroup a (modMulModulus_prime.dvd_of_dvd_pow (Nat.dvd_of_mod_eq_zero h))
  have hlt : toGroup a ^ (2 ^ k - 1) % Config.modMulModulus < 65537 := Nat.mod_lt _ (by decide)
  omega

theorem residue_modMulInverse (a : Word) : residue (modMulInverse a) = residue a ^ 65535 := by
  obtain ⟨h1, h2⟩ := powLoop_toGroup_bounds a 16
  rw [modMulInverse, residue_ofGroup h1 h2, powLoop_eq, ZMod.natCast_mod, Nat.cast_pow, residue]
  rfl

theorem residue_ne_zero (a : Word) : residue a ≠ 0 := fun h =>
  not_dvd_toGroup a ((ZMod.natCast_eq_zero_iff _ _).1 h)

/-- Fermat's little theorem: the 65536th power of a word's residue is 1. -/
theorem residue_pow_eq_one (a : Word) : residue a ^ 65536 = 1 := by
  have : Fact (Nat.Prime Config.modMulModulus) := ⟨modMulModulus_prime⟩
  exact ZMod.pow_card_sub_one_eq_one (residue_ne_zero a)

/-- `modMulInverse` is an inverse, also of the zero pattern (R106). -/
@[simp] theorem modMul_modMulInverse (a : Word) : modMul a (modMulInverse a) = 1#16 := by
  apply residue_injective
  rw [residue_modMul, residue_modMulInverse, ← pow_succ', residue_pow_eq_one, residue_one]

theorem modMul_one (a : Word) : modMul a 1#16 = a := residue_injective (by simp)

theorem modMul_comm (a b : Word) : modMul a b = modMul b a := residue_injective (by simp [mul_comm])

theorem modMul_assoc (a b c : Word) : modMul (modMul a b) c = modMul a (modMul b c) :=
  residue_injective (by simp [mul_assoc])

/-- The inverse is unique (R105). -/
theorem modMul_eq_one_iff (a r : Word) : modMul a r = 1#16 ↔ r = modMulInverse a := by
  constructor
  · intro h
    calc r = modMul r (modMul a (modMulInverse a)) := by rw [modMul_modMulInverse, modMul_one]
      _ = modMul (modMul a r) (modMulInverse a) := by rw [← modMul_assoc, modMul_comm r a]
      _ = modMulInverse a := by rw [h, modMul_comm, modMul_one]
  · rintro rfl
    exact modMul_modMulInverse a

theorem modMulInverse_modMulInverse (a : Word) : modMulInverse (modMulInverse a) = a :=
  ((modMul_eq_one_iff _ a).1 (by rw [modMul_comm, modMul_modMulInverse])).symm

/-- In 1..65536 the inverse of a reading is the reading of `modMulInverse` (R105). -/
theorem toGroup_mul_mod_eq_one_iff (a : Word) {q : Nat} (h1 : 1 ≤ q) (h2 : q ≤ 65536) :
    toGroup a * q % 65537 = 1 ↔ q = toGroup (modMulInverse a) := by
  have hq := toGroup_ofGroup q h1 h2
  calc toGroup a * q % 65537 = 1 ↔ toGroup (modMul a (ofGroup q)) = toGroup 1#16 := by rw [toGroup_modMul, hq]; rfl
    _ ↔ ofGroup q = modMulInverse a := by rw [toGroup_injective.eq_iff, modMul_eq_one_iff]
    _ ↔ q = toGroup (modMulInverse a) := by rw [← toGroup_injective.eq_iff, hq]

/-- Settles O17: the unique inverse is the reading of `modMulInverse`, and 0 and 1 are their own inverses. -/
theorem modMulInverseIsTheUniqueInverse : Obligations.ModMulInverseIsTheUniqueInverse := by
  refine ⟨fun a => ?_, ((modMul_eq_one_iff _ _).1 (by decide)).symm, ((modMul_eq_one_iff _ _).1 (modMul_one _)).symm⟩
  simp only [← toGroup_eq]
  have h1 := toGroup_pos (modMulInverse a)
  have h2 := toGroup_le (modMulInverse a)
  exact ⟨toGroup (modMulInverse a), h1, h2, (toGroup_mul_mod_eq_one_iff a h1 h2).2 rfl,
    fun q hq1 hq2 => (toGroup_mul_mod_eq_one_iff a hq1 hq2).1, (ofGroup_toGroup (modMulInverse a)).symm⟩

/-- Settles O18: negation and the inverse of the multiplicative group. -/
theorem groupIdentities : Obligations.GroupIdentities := by
  refine ⟨fun x => ?_, modMul_modMulInverse⟩
  rw [modAdd_eq_add, modAddInverse_eq_neg, BitVec.add_right_neg]

/-- Written in 16 bits 65536 is the zero pattern, so `ofGroup` needs no case of its own. -/
theorem ofGroup_eq_ofNat (p : Nat) : ofGroup p = BitVec.ofNat 16 p := by
  unfold ofGroup
  split
  case isTrue h => rw [h]; rfl
  case isFalse => rfl

/-- The zero pattern stands for 65536, which is -1 modulo 65537 (R104). -/
theorem modMul_zero (a : Word) : modMul a 0#16 = 1#16 - a := by
  have h1 := toGroup_pos a
  have h2 := toGroup_le a
  have hp : toGroup a * 65536 % 65537 = 65537 - toGroup a := by omega
  have hword : BitVec.ofNat 16 (toGroup a) = a := by rw [← ofGroup_eq_ofNat, ofGroup_toGroup]
  calc modMul a 0#16 = BitVec.ofNat 16 (65537 - toGroup a) := by rw [← hp]; exact ofGroup_eq_ofNat _
    _ = 1#16 - BitVec.ofNat 16 (toGroup a) := by
      apply BitVec.eq_of_toNat_eq
      simp only [BitVec.toNat_sub, BitVec.toNat_ofNat]
      omega
    _ = 1#16 - a := by rw [hword]

/-- Settles O19: the laws of the residues, read back. -/
theorem multiplicativeGroupLaws : Obligations.MultiplicativeGroupLaws := by
  refine ⟨modMul_one, fun a _ => ?_, modMul_zero 0#16, modMul_comm, modMul_assoc, modMul_eq_one_iff,
    modMulInverse_modMulInverse⟩
  have := a.isLt
  rw [modMul_zero, BitVec.toNat_sub, BitVec.toNat_ofNat]
  omega

end Sys2Proof.Machine
end

section
/-! PROOF. The two illustrated methods (40_primitives.md R105, R107; 93_implementation_defined.md G1, G2). -/

namespace Sys2Proof.Machine

/-! ### The multiplier that avoids the division -/

/-- Modulo 65537 the number `hi * 65536 + lo` is `lo - hi`, or one 65537 more where that is negative (R107). -/
theorem low_high_mod {lo hi : Nat} (hlo : lo < 65536) (hhi : hi < 65536) :
    (65536 * hi + lo) % 65537 = lo + (if lo < hi then 65537 else 0) - hi := by
  split
  case isTrue hlt =>
    rw [show 65536 * hi + lo = (hi - 1) * 65537 + (lo + 65537 - hi) by omega, Nat.mul_add_mod_of_lt (by omega)]
  case isFalse hge =>
    rw [show 65536 * hi + lo = hi * 65537 + (lo - hi) by omega, Nat.mul_add_mod_of_lt (by omega), Nat.add_zero]

/-- The low-high multiplier returns `modMul` (93_implementation_defined.md G2). -/
theorem modMulLowHigh_eq_modMul (a b : Word) : modMulLowHigh a b = modMul a b := by
  unfold modMulLowHigh
  split_ifs with ha hb
  · rw [ha, modMul_comm, modMul_zero]
  · rw [hb, modMul_zero]
  · have hp : a.toNat * b.toNat < 65536 * 65536 := Nat.mul_lt_mul'' a.isLt b.isLt
    have hmod := low_high_mod (Nat.mod_lt (a.toNat * b.toNat) (by decide)) (Nat.div_lt_of_lt_mul hp)
    rw [Nat.div_add_mod] at hmod
    rw [modMul, ofGroup_eq_ofNat, toGroup_eq, if_neg ha, toGroup_eq, if_neg hb, hmod]
    apply BitVec.eq_of_toNat_eq
    simp only [BitVec.toNat_ofNat]
    split <;> omega

/-! ### The extended Euclidean method -/

/-- One turn of the loop of R105. -/
def Euclid.turn (e : Euclid) : Euclid where
  a := e.m
  m := e.a % e.m
  x := e.y
  y := e.x - (e.a / e.m : Nat) * e.y

theorem euclidLoop_turn {n : Nat} {e : Euclid} (h : 1 < e.a) : euclidLoop (n + 1) e = euclidLoop n e.turn := by
  simp [euclidLoop, h, Euclid.turn]

theorem euclidLoop_end {n : Nat} {e : Euclid} (h : e.a ≤ 1) : euclidLoop n e = e := by
  cases n <;> simp [euclidLoop, h]

/-- What every turn keeps when the inverse of `w` is sought. The coefficients `x` and `y` have opposite signs, which change places
at every turn: `σ` is the sign of `x`. -/
structure EuclidInvariant (w : Word) (σ : Int) (e : Euclid) : Prop where
  a_pos : 0 < e.a
  coprime : Nat.Coprime e.a e.m
  x_spec : (e.x : ZMod Config.modMulModulus) * residue w = (e.a : ZMod Config.modMulModulus)
  y_spec : (e.y : ZMod Config.modMulModulus) * residue w = (e.m : ZMod Config.modMulModulus)
  sign : σ = 1 ∨ σ = -1
  x_nonneg : 0 ≤ σ * e.x
  x_lt : σ * e.x < 65537
  y_nonpos : σ * e.y ≤ 0
  det : σ * (e.x * e.m - e.y * e.a) = 65537

/-- The values the loop starts from (R105). -/
def Euclid.start (w : Word) : Euclid := { a := toGroup w, m := Config.modMulModulus, x := 1, y := 0 }

theorem EuclidInvariant.start (w : Word) : EuclidInvariant w 1 (Euclid.start w) where
  a_pos := toGroup_pos w
  coprime := ((Nat.Prime.coprime_iff_not_dvd modMulModulus_prime).2 (not_dvd_toGroup w)).symm
  x_spec := by simp [Euclid.start, residue]
  y_spec := by rw [Euclid.start, Int.cast_zero, zero_mul, ZMod.natCast_self]
  sign := .inl rfl
  x_nonneg := by simp [Euclid.start]
  x_lt := by simp [Euclid.start]
  y_nonpos := by simp [Euclid.start]
  det := by simp [Euclid.start, Config.modMulModulus]

section
variable {w : Word} {σ : Int} {e : Euclid}

theorem EuclidInvariant.m_pos (h : EuclidInvariant w σ e) (ha : 1 < e.a) : 0 < e.m := by
  refine Nat.pos_of_ne_zero fun hm => ?_
  have hgcd := h.coprime
  rw [hm, Nat.coprime_zero_right] at hgcd
  omega

theorem EuclidInvariant.turn (h : EuclidInvariant w σ e) (ha : 1 < e.a) : EuclidInvariant w (-σ) e.turn := by
  have hm := h.m_pos ha
  obtain ⟨-, hcoprime, hx, hy, hsign, hx0, -, hy0, hdet⟩ := h
  have hdiv : e.a = e.m * (e.a / e.m) + e.a % e.m := (Nat.div_add_mod e.a e.m).symm
  have hgcd : Nat.Coprime e.m (e.a % e.m) := by rwa [Nat.coprime_comm, Nat.Coprime, ← Nat.gcd_rec, Nat.gcd_comm]
  unfold Euclid.turn
  generalize e.a / e.m = q, e.a % e.m = r at hdiv hgcd
  constructor
  case a_pos => exact hm
  case coprime => exact hgcd
  case x_spec => exact hy
  case y_spec =>
    rw [hdiv] at hx
    push_cast at hx ⊢
    linear_combination hx - q * hy
  case sign => rcases hsign with rfl | rfl <;> simp
  case x_nonneg => simpa using hy0
  case x_lt =>
    have hxm : 0 ≤ σ * e.x * e.m := mul_nonneg hx0 (Int.natCast_nonneg _)
    have hya : -σ * e.y * 2 ≤ -σ * e.y * e.a := mul_le_mul_of_nonneg_left (by exact_mod_cast ha) (by linarith)
    dsimp only
    linarith
  case y_nonpos =>
    have hqy : q * (σ * e.y) ≤ 0 := mul_nonpos_of_nonneg_of_nonpos (Int.natCast_nonneg _) hy0
    dsimp only
    linarith
  case det =>
    rw [hdiv] at hdet
    push_cast at hdet
    linear_combination hdet

/-- When the loop ends `x` is the inverse, or the inverse less 65537 (R105). -/
theorem EuclidInvariant.result (h : EuclidInvariant w σ e) (ha : e.a = 1) :
    ofGroup (if e.x < 0 then e.x + Config.modMulModulus else e.x).toNat = modMulInverse w := by
  have hx : (e.x : ZMod Config.modMulModulus) * residue w = 1 := by rw [h.x_spec, ha, Nat.cast_one]
  have hne : e.x ≠ 0 := fun h0 => residue_ne_zero 1#16 (by rw [residue_one, ← hx, h0, Int.cast_zero, zero_mul])
  set r : Int := if e.x < 0 then e.x + Config.modMulModulus else e.x with hr
  have hspec : (r : ZMod Config.modMulModulus) = e.x := by
    rw [hr]
    split
    case isTrue => rw [Int.cast_add, Int.cast_natCast, ZMod.natCast_self, add_zero]
    case isFalse => rfl
  have hbounds : 1 ≤ r ∧ r ≤ 65536 := by
    have := h.x_lt
    have := h.x_nonneg
    rcases h.sign with rfl | rfl <;> simp only [Config.modMulModulus] at hr <;> omega
  refine (modMul_eq_one_iff w _).1 (residue_injective ?_)
  rw [residue_modMul, residue_ofGroup (by omega) (by omega), ← Int.cast_natCast, Int.toNat_of_nonneg (by omega), hspec,
    mul_comm, hx, residue_one]

/-- Lamé's bound on the pair `a, m`: after `n` more turns `a` is at most 1. -/
def LameBound (n : Nat) (e : Euclid) : Prop :=
  e.m < Nat.fib (n + 2) ∨ e.m ≤ e.a ∧ e.a < Nat.fib (n + 3)

theorem LameBound.turn {n : Nat} (h : LameBound (n + 1) e) (hm : 0 < e.m) : LameBound n e.turn := by
  have hmod := Nat.mod_lt e.a hm
  rcases Nat.lt_or_ge e.m (Nat.fib (n + 3)) with hlt | hge
  · exact .inr ⟨hmod.le, hlt⟩
  · rcases h with hlt | ⟨hle, hlt⟩
    · exact absurd hlt (Nat.not_lt.2 hge)
    · have hfib : Nat.fib (n + 1 + 3) = Nat.fib (n + 2) + Nat.fib (n + 3) := Nat.fib_add_two
      have hsub : e.a % e.m ≤ e.a - e.m := by rw [Nat.mod_eq_sub_mod hle]; exact Nat.mod_le _ _
      exact .inl (show e.a % e.m < Nat.fib (n + 2) by omega)

theorem LameBound.a_le_one (h : LameBound 0 e) (hinv : EuclidInvariant w σ e) : e.a ≤ 1 := by
  by_contra ha
  have hm := hinv.m_pos (by omega)
  have hfib2 : Nat.fib (0 + 2) = 1 := rfl
  have hfib3 : Nat.fib (0 + 3) = 2 := rfl
  rcases h with hlt | ⟨_, hlt⟩ <;> omega

theorem euclidLoop_spec {n : Nat} (h : EuclidInvariant w σ e) (hn : LameBound n e) :
    ∃ τ, EuclidInvariant w τ (euclidLoop n e) ∧ (euclidLoop n e).a = 1 := by
  induction n generalizing e σ with
  | zero => exact ⟨σ, h, Nat.le_antisymm (hn.a_le_one h) h.a_pos⟩
  | succ n ih =>
    rcases Nat.lt_or_ge 1 e.a with ha | ha
    · rw [euclidLoop_turn ha]
      exact ih (h.turn ha) (hn.turn (h.m_pos ha))
    · rw [euclidLoop_end ha]
      exact ⟨σ, h, Nat.le_antisymm ha h.a_pos⟩

end

/-- The extended Euclidean method returns `modMulInverse` (93_implementation_defined.md G1). -/
theorem modMulInverseEuclid_eq_modMulInverse (w : Word) : modMulInverseEuclid w = modMulInverse w := by
  have hbound : LameBound 32 (Euclid.start w) := .inl (by norm_num [Euclid.start])
  obtain ⟨τ, hinv, hend⟩ := euclidLoop_spec (EuclidInvariant.start w) hbound
  exact hinv.result hend

/-- Settles O20: the loop keeps Bézout's equation, and modulo 65537 the high half counts negatively. -/
theorem illustratedMethodsAgree : Obligations.IllustratedMethodsAgree :=
  ⟨modMulInverseEuclid_eq_modMulInverse, modMulLowHigh_eq_modMul⟩

end Sys2Proof.Machine
end

section
/-! PROOF. The five primitive commands (40_primitives.md R108, R110 to R114): each is `RES <- f(OPA, OPB)` and `complete`, or
`E_BUSY`. -/

namespace Sys2Proof.Machine

/-- A command issued while busy is dropped, `E_BUSY` being bit 4 of ERR (20_memory.md R71). -/
theorem exec_busy (i : Instr) {s : State} (hp : s.ph ≠ .idle) : exec i s = .next { s with err := s.err ||| 0x10#6 } := by
  rw [exec_eq_issue, issue_busy ((busy_eq_true_iff s).2 hp)]
  rfl

/-- The common effect of R108: an idle core stays idle, and nothing else but `RES`, `CUR`, `CNT` and `DONE` is written. -/
theorem exec_primitive {i : Instr} (f : Word → Word → Word) (hcheck : checkOf i = needNothing)
    (hstart : ∀ t, startOf i t = (t.setRes (f t.opa t.opb)).complete) {s : State} (hp : s.ph = .idle) :
    exec i s = .next { s with res := f s.opa s.opb, cur := i.opcode, cnt := 0#4, done := true } := by
  rw [exec_accepted hp (congrFun hcheck s), hstart]
  simp [State.setRes, State.complete, State.accept, State.clearDone, hp]

theorem exec_xor {s : State} (hp : s.ph = .idle) :
    exec .xor s = .next { s with res := xor16 s.opa s.opb, cur := 0x1#4, cnt := 0#4, done := true } :=
  exec_primitive xor16 rfl (fun _ => rfl) hp

theorem exec_add {s : State} (hp : s.ph = .idle) :
    exec .add s = .next { s with res := modAdd s.opa s.opb, cur := 0x2#4, cnt := 0#4, done := true } :=
  exec_primitive modAdd rfl (fun _ => rfl) hp

theorem exec_addinv {s : State} (hp : s.ph = .idle) :
    exec .addinv s = .next { s with res := modAddInverse s.opa, cur := 0x3#4, cnt := 0#4, done := true } :=
  exec_primitive (fun a _ => modAddInverse a) rfl (fun _ => rfl) hp

theorem exec_mul {s : State} (hp : s.ph = .idle) :
    exec .mul s = .next { s with res := modMul s.opa s.opb, cur := 0x4#4, cnt := 0#4, done := true } :=
  exec_primitive modMul rfl (fun _ => rfl) hp

theorem exec_mulinv {s : State} (hp : s.ph = .idle) :
    exec .mulinv s = .next { s with res := modMulInverse s.opa, cur := 0x5#4, cnt := 0#4, done := true } :=
  exec_primitive (fun a _ => modMulInverse a) rfl (fun _ => rfl) hp

/-- Settles O2: one function of the operands for each command, and `E_BUSY` for all. -/
theorem primitiveCommandsShareOneBehaviour : Obligations.PrimitiveCommandsShareOneBehaviour := by
  refine fun i hi => ⟨?_, fun s => exec_busy i⟩
  simp only [List.mem_cons, List.not_mem_nil, or_false] at hi
  rcases hi with rfl | rfl | rfl | rfl | rfl
  exacts [⟨xor16, fun _ => exec_xor⟩, ⟨modAdd, fun _ => exec_add⟩, ⟨fun a _ => modAddInverse a, fun _ => exec_addinv⟩,
    ⟨modMul, fun _ => exec_mul⟩, ⟨fun a _ => modMulInverse a, fun _ => exec_mulinv⟩]

/-- Settles O3: the corner cases are the laws of exclusive or. -/
theorem xorCommandResult : Obligations.XorCommandResult :=
  ⟨rfl, fun _ => exec_xor, fun _ => ⟨BitVec.xor_self, BitVec.xor_zero, BitVec.zero_xor⟩, by decide⟩

/-- Settles O4: the example values are evaluated. -/
theorem addCommandResult : Obligations.AddCommandResult := ⟨rfl, fun _ => exec_add, by decide⟩

/-- Settles O5: the example values are evaluated. -/
theorem addinvCommandResult : Obligations.AddinvCommandResult := ⟨rfl, fun _ => exec_addinv, by decide⟩

/-- Settles O6: the example values are evaluated. -/
theorem mulCommandResult : Obligations.MulCommandResult := ⟨rfl, fun _ => exec_mul, by decide⟩

/-- Settles O7: each value the rule names has product 1 with its operand, and the inverse is unique. -/
theorem mulinvCommandResult : Obligations.MulinvCommandResult := by
  refine ⟨rfl, fun _ => exec_mulinv, ?_, ?_, ?_, ?_, ?_, ?_, ?_⟩
  all_goals exact ((modMul_eq_one_iff _ _).1 (by decide)).symm

end Sys2Proof.Machine
end

section
/-! PROOF. The functions of the key scheduler word by word (41_key_scheduler.md R130 to R135, R141): the rotation is that of bit vectors,
the encryption schedule is cut out of rotated keys, and the decryption schedule reads the groups of its sequence from the last to the first. -/

namespace Sys2Proof.Machine

/-! ### The rotation and the encryption schedule -/

@[simp] theorem rotl128_zero (K : Key128) : rotl128 K 0 = K := by
  simp [rotl128, BitVec.ushiftRight_eq_zero]

/-- The low `128 - n` bits move up by `n`, and the high `n` bits fill the room below them (R130). -/
theorem rotl128_toNat (K : Key128) {n : Nat} (hn : n < 128) :
    (rotl128 K n).toNat = K.toNat * 2 ^ n % 2 ^ 128 + K.toNat / 2 ^ (128 - n) := by
  have hpow : 2 ^ 128 = 2 ^ n * 2 ^ (128 - n) := by rw [← pow_add, Nat.add_sub_cancel' hn.le]
  have hhigh : K.toNat / 2 ^ (128 - n) < 2 ^ n := Nat.div_lt_of_lt_mul (by rw [mul_comm, ← hpow]; exact K.isLt)
  have hlow : K.toNat * 2 ^ n % 2 ^ 128 = 2 ^ n * (K.toNat % 2 ^ (128 - n)) := by
    rw [hpow, mul_comm, Nat.mul_mod_mul_left]
  rw [rotl128, BitVec.toNat_or, BitVec.toNat_shiftLeft, BitVec.toNat_ushiftRight, Nat.shiftLeft_eq,
    Nat.shiftRight_eq_div_pow, hlow, Nat.two_pow_add_eq_or_of_lt hhigh]

theorem rotl128_getLsbD (K : Key128) {n p : Nat} (hn : n < 128) (hp : p < 128) :
    (rotl128 K n).getLsbD p = K.getLsbD ((p + 128 - n) % 128) := by
  rw [rotl128_eq_rotateLeft K hn, BitVec.getLsbD_rotateLeft, Nat.mod_eq_of_lt hn]
  by_cases h : p < n
  · have hidx : 128 - n + p = (p + 128 - n) % 128 := by omega
    simp [h, hidx]
  · have hidx : p - n = (p + 128 - n) % 128 := by omega
    simp [h, hp, hidx]

/-- Settles O21: the formula by splitting the product at bit 128, the bits by the rotation of bit vectors. -/
theorem rotationByRule : Obligations.RotationByRule :=
  ⟨fun K _ => rotl128_toNat K, rotl128_zero, fun K _ _ => rotl128_getLsbD K⟩

/-- The rotation at the end of turn `n` of the loop of R131. -/
theorem rotl128_turn (K : Key128) (n : Nat) :
    rotl128 (rotl128 K (25 * n % 128)) 25 = rotl128 K (25 * (n + 1) % 128) := by
  rw [rotl128_rotl128 K (Nat.mod_lt _ (by decide)) (by decide), Nat.mod_add_mod, Nat.mul_succ]

theorem subkey_generateEncryptionSubkeys (K : Key128) {n j : Nat} (hj : j < 8) (h : 8 * n + j < 52) :
    subkey (generateEncryptionSubkeys K) (8 * n + j) = seg (rotl128 K (25 * n % 128)) j := by
  have hdiv : (8 * n + j) / 8 = n := by omega
  have hmod : (8 * n + j) % 8 = j := by omega
  rw [subkey_eq _ _ h, generateEncryptionSubkeys_getElem, rotl128_iterate, hdiv, hmod]

/-- Settles O22: the loop of R131 rotates the key once a turn, and rotations compose. -/
theorem encryptionScheduleClosedForm : Obligations.EncryptionScheduleClosedForm :=
  ⟨fun K _ _ => rotl128_rotl128 K, fun K _ _ _ hj h =>
    subkey_generateEncryptionSubkeys K (Nat.lt_succ_of_le hj) (Nat.lt_succ_of_le h)⟩

/-! ### The decryption schedule -/

/-- Word `d` of group `i` of the decryption schedule (R134). -/
theorem dkWord_group (E : Subkeys) {i d : Nat} (hi : i ≤ 7) (hd : d < 6) :
    dkWord E (6 * i + d) = dkGroupWord E i d := by
  have hdiv : (6 * i + d) / 6 = i := by omega
  have hmod : (6 * i + d) % 6 = d := by omega
  rw [dkWord, hdiv, hmod, if_pos hi]

theorem subkey_generateDecryptionSubkeys (E : Subkeys) {k : Nat} (h : k < 52) :
    subkey (generateDecryptionSubkeys E) k = dkWord E k := by
  rw [subkey_eq _ _ h, generateDecryptionSubkeys_getElem]

theorem subkey_generateDecryptionSubkeys_group (E : Subkeys) {i d : Nat} (hi : i ≤ 7) (hd : d < 6) :
    subkey (generateDecryptionSubkeys E) (6 * i + d) = dkGroupWord E i d := by
  rw [subkey_generateDecryptionSubkeys E (by omega), dkWord_group E hi hd]

/-- Settles O23: each formula is the value of `dkGroupWord` or `dkFinalWord` at one word of a group. -/
theorem decryptionScheduleByRule : Obligations.DecryptionScheduleByRule := by
  intro E
  refine ⟨fun i hi => ?_, ?_⟩
  · have hgroup (d : Nat) (hd : d < 6) := subkey_generateDecryptionSubkeys_group E hi hd
    exact ⟨hgroup 0 (by decide), hgroup 1 (by decide), hgroup 2 (by decide), hgroup 3 (by decide), hgroup 4 (by decide),
      hgroup 5 (by decide)⟩
  · have hfinal (k : Nat) (hk : k < 52) := subkey_generateDecryptionSubkeys E hk
    exact ⟨hfinal 48 (by decide), hfinal 49 (by decide), hfinal 50 (by decide), hfinal 51 (by decide)⟩

/-- The index of the word of `E` that word `k` of the decryption schedule is made from (R135): group `m` is read from group `8 - m`,
but for its last two words, which are read from group `7 - m`. -/
def dkSource (k : Nat) : Nat :=
  match k % 6 with
  | 0 => 48 - k
  | 1 => if k = 1 ∨ k = 49 then 50 - k else 51 - k
  | 2 => if k = 2 ∨ k = 50 then 52 - k else 51 - k
  | 3 => 54 - k
  | 4 => 50 - k
  | _ => 52 - k

/-- The inverse that R134 takes of the word at position `d` of a group; the last two words are taken as they are. -/
def dkInverse (d : Nat) (w : Word) : Word :=
  match d with
  | 0 | 3 => modMulInverse w
  | 1 | 2 => modAddInverse w
  | _ => w

/-- The table of R135, row by row. -/
theorem subkey_generateDecryptionSubkeys_eq_dkInverse (E : Subkeys) {k : Nat} (h : k < 52) :
    subkey (generateDecryptionSubkeys E) k = dkInverse (k % 6) (subkey E (dkSource k)) := by
  rw [subkey_generateDecryptionSubkeys E h]
  interval_cases k <;> rfl

theorem dkSource_lt : ∀ k < 52, dkSource k < 52 := by decide

/-- The index map of R135 is its own inverse (R141). -/
theorem dkSource_dkSource : ∀ k < 52, dkSource (dkSource k) = k := by decide

/-- A word and its source stand at positions of the same kind: at most the two middle words change places. -/
theorem dkInverse_dkSource {k : Nat} (h : k < 52) : dkInverse (dkSource k % 6) = dkInverse (k % 6) := by
  interval_cases k <;> rfl

theorem modAddInverse_modAddInverse (a : Word) : modAddInverse (modAddInverse a) = a := by
  rw [modAddInverse_eq_neg, modAddInverse_eq_neg, BitVec.neg_neg]

/-- Both inverses are involutions (40_primitives.md R103, R105). -/
theorem dkInverse_dkInverse : ∀ (d : Nat) (w : Word), dkInverse d (dkInverse d w) = w
  | 0, w | 3, w => modMulInverse_modMulInverse w
  | 1, w | 2, w => modAddInverse_modAddInverse w
  | 4, _ | _ + 5, _ => rfl

theorem generateDecryptionSubkeys_generateDecryptionSubkeys (E : Subkeys) :
    generateDecryptionSubkeys (generateDecryptionSubkeys E) = E := by
  refine Vector.ext fun k hk => ?_
  have hsrc := dkSource_lt k hk
  calc (generateDecryptionSubkeys (generateDecryptionSubkeys E))[k]
      = dkInverse (k % 6) (subkey (generateDecryptionSubkeys E) (dkSource k)) := by
        rw [← subkey_generateDecryptionSubkeys_eq_dkInverse _ hk, subkey_eq _ k hk]
    _ = dkInverse (k % 6) (dkInverse (k % 6) (subkey E k)) := by
        rw [subkey_generateDecryptionSubkeys_eq_dkInverse E hsrc, dkSource_dkSource k hk, dkInverse_dkSource hk]
    _ = E[k] := by rw [dkInverse_dkInverse, subkey_eq E k hk]

/-- Settles O24: the index map and both inverses are involutions, and the map keeps the kind of a word. -/
theorem decryptionScheduleIsAnInvolution : Obligations.DecryptionScheduleIsAnInvolution :=
  generateDecryptionSubkeys_generateDecryptionSubkeys

end Sys2Proof.Machine
end

section
/-! PROOF. The phases of the key scheduler (41_key_scheduler.md R137, R140, R145): what one core step does to the stores and to the
sequencer, the whole phases by induction on `CNT` up to the end of phase, and the commands `EKGEN` and `DKGEN`. -/

namespace Sys2Proof.Machine

/-! ### The words a core step writes -/

theorem subkey_kseWrite (E : Subkeys) (K : Key128) (n : Nat) {i : Nat} (h : i < 52) :
    subkey (kseWrite E K n) i = if i / 8 = n then seg K (i % 8) else subkey E i := by
  rw [subkey_eq _ i h, subkey_eq E i h, kseWrite_getElem]

theorem subkey_ksdWrite (D E : Subkeys) (i : Nat) {k : Nat} (h : k < 52) :
    subkey (ksdWrite D E i) k = if k / 6 = i then dkWord E k else subkey D k := by
  rw [subkey_eq _ k h, subkey_eq D k h, ksdWrite_getElem]

theorem subkey_kseWrite_segment (E : Subkeys) (K : Key128) {n j : Nat} (hj : j < 8) (h : 8 * n + j < 52) :
    subkey (kseWrite E K n) (8 * n + j) = seg K j := by
  have hdiv : (8 * n + j) / 8 = n := by omega
  have hmod : (8 * n + j) % 8 = j := by omega
  rw [subkey_kseWrite E K n h, if_pos hdiv, hmod]

theorem subkey_ksdWrite_group (D E : Subkeys) {i d : Nat} (hi : i ≤ 7) (hd : d < 6) :
    subkey (ksdWrite D E i) (6 * i + d) = dkGroupWord E i d := by
  have hdiv : (6 * i + d) / 6 = i := by omega
  rw [subkey_ksdWrite D E i (by omega), if_pos hdiv, dkWord_group E hi hd]

/-- The ninth step writes the final four (R140). -/
theorem subkey_ksdWrite_final (D E : Subkeys) {d : Nat} (hd : d < 4) :
    subkey (ksdWrite D E 8) (48 + d) = dkWord E (48 + d) := by
  have hdiv : (48 + d) / 6 = 8 := by omega
  rw [subkey_ksdWrite D E 8 (by omega), if_pos hdiv]

/-! ### The rows of 43_control.md R182, with `CNT` as a number -/

section
variable {s : State} {n : Nat}

/-- A step of `KSE` inside the phase. -/
theorem coreStep_kse (hp : s.ph = .kse) (hc : s.cnt = BitVec.ofNat 4 n) (hn : n < 6) :
    coreStep s = .next
      { s with ek := kseWrite s.ek s.kr n, kr := rotl128 s.kr 25, cnt := BitVec.ofNat 4 (n + 1) } := by
  have hnat : s.cnt.toNat = n := by rw [hc, BitVec.toNat_ofNat]; omega
  calc coreStep s = .next s.kseData.count := by simp [coreStep, hp, kseStep, hnat, hn]
    _ = _ := by rw [BitVec.ofNat_add, ← hc, ← hnat]; rfl

/-- The last step of `KSE`, up to the end of phase. -/
theorem coreStep_kse_last (hp : s.ph = .kse) (hc : s.cnt = BitVec.ofNat 4 6) :
    coreStep s = endKse { s with ek := kseWrite s.ek s.kr 6, kr := rotl128 s.kr 25, kv := true } := by
  have hnat : s.cnt.toNat = 6 := by rw [hc]; rfl
  simp [coreStep, hp, kseStep, hnat, State.kseData, State.setKv]

/-- A step of `KSD` inside the phase. -/
theorem coreStep_ksd (hp : s.ph = .ksd) (hc : s.cnt = BitVec.ofNat 4 n) (hn : n < 8) :
    coreStep s = .next { s with dk := ksdWrite s.dk s.ek n, cnt := BitVec.ofNat 4 (n + 1) } := by
  have hnat : s.cnt.toNat = n := by rw [hc, BitVec.toNat_ofNat]; omega
  calc coreStep s = .next s.ksdData.count := by simp [coreStep, hp, ksdStep, hnat, hn]
    _ = _ := by rw [BitVec.ofNat_add, ← hc, ← hnat]; rfl

/-- The last step of `KSD`, up to the end of phase. -/
theorem coreStep_ksd_last (hp : s.ph = .ksd) (hc : s.cnt = BitVec.ofNat 4 8) :
    coreStep s = endKsd { s with dk := ksdWrite s.dk s.ek 8, dv := true } := by
  have hnat : s.cnt.toNat = 8 := by rw [hc]; rfl
  simp [coreStep, hp, ksdStep, hnat, State.ksdData, State.setDv]

end

theorem endKse_ekgen {s : State} (h : s.cur = 0x6#4) : endKse s = .next s.complete := by simp [endKse, h, Instr.opcode]
theorem endKse_encrypt {s : State} (h : s.cur = 0xA#4) : endKse s = .next s.startRnd := by simp [endKse, h, Instr.opcode]
theorem endKse_decrypt {s : State} (h : s.cur = 0xB#4) : endKse s = .next s.startKsd := by simp [endKse, h, Instr.opcode]
theorem endKsd_dkgen {s : State} (h : s.cur = 0x7#4) : endKsd s = .next s.complete := by simp [endKsd, h, Instr.opcode]
theorem endKsd_decrypt {s : State} (h : s.cur = 0xB#4) : endKsd s = .next s.startRnd := by simp [endKsd, h, Instr.opcode]

/-- Settles O30: the store is `kseWrite`, and the command in progress decides the end of phase. -/
theorem kseStepByRule : Obligations.KseStepByRule := by
  intro s n hp hc hn
  refine ⟨kseWrite s.ek s.kr n, fun j hj h => subkey_kseWrite_segment _ _ (by omega) (by omega), fun i hi hne => ?_,
    coreStep_kse hp hc, ?_, ?_, ?_⟩
  · rw [subkey_kseWrite _ _ _ (by omega), if_neg hne]
  all_goals
    rintro rfl hcur
    rw [coreStep_kse_last hp hc]
  · exact endKse_ekgen hcur
  · exact endKse_encrypt hcur
  · exact endKse_decrypt hcur

/-- Settles O31: the store is `ksdWrite`, and the command in progress decides the end of phase. -/
theorem ksdStepByRule : Obligations.KsdStepByRule := by
  intro s i hp hc hi
  refine ⟨ksdWrite s.dk s.ek i, fun k hk hne => ?_, fun h7 => ?_, ?_⟩
  · rw [subkey_ksdWrite _ _ _ (by omega), if_neg hne]
  · have hgroup (d : Nat) (hd : d < 6) := subkey_ksdWrite_group s.dk s.ek h7 hd
    exact ⟨hgroup 0 (by decide), hgroup 1 (by decide), hgroup 2 (by decide), hgroup 3 (by decide), hgroup 4 (by decide),
      hgroup 5 (by decide), coreStep_ksd hp hc (by omega)⟩
  · rintro rfl
    have hfinal (d : Nat) (hd : d < 4) := subkey_ksdWrite_final s.dk s.ek hd
    have hlast := coreStep_ksd_last hp hc
    exact ⟨hfinal 0 (by decide), hfinal 1 (by decide), hfinal 2 (by decide), hfinal 3 (by decide),
      fun hcur => hlast.trans (endKsd_dkgen hcur), fun hcur => hlast.trans (endKsd_decrypt hcur)⟩

/-! ### Whole phases -/

/-- A run of core steps ends with its last step. -/
theorem coreSteps_succ {n : Nat} {s t : State} (h : coreSteps n s = .next t) : coreSteps (n + 1) s = coreStep t := by
  induction n generalizing s with
  | zero =>
    cases h
    simp only [coreSteps]
    cases coreStep t <;> rfl
  | succ n ih =>
    rw [coreSteps] at h ⊢
    cases hs : coreStep s with
    | next u => rw [hs] at h; exact ih h
    | fault f => simp [hs] at h
    | refused r => simp [hs] at h

/-- Inside phase `KSE`: `KR` is rotated `CNT` times and the groups below `CNT` of `EK` are final (60_exceptions.md R206). -/
theorem coreSteps_kse {s : State} (hp : s.ph = .kse) (hc : s.cnt = 0#4) {n : Nat} (hn : n ≤ 6) :
    ∃ E : Subkeys, (∀ i : Fin 52, i.val < 8 * n → E[i] = (generateEncryptionSubkeys s.kr)[i]) ∧
      coreSteps n s = .next { s with ek := E, kr := rotl128 s.kr (25 * n % 128), cnt := BitVec.ofNat 4 n } := by
  induction n with
  | zero => exact ⟨s.ek, by simp, by simp [coreSteps, ← hc]⟩
  | succ n ih =>
    obtain ⟨E, hE, hrun⟩ := ih (by omega)
    refine ⟨_, kseWrite_extends hE, ?_⟩
    rw [coreSteps_succ hrun, ← rotl128_turn]
    exact coreStep_kse hp rfl (by omega)

/-- The whole phase `KSE`, up to the end of phase (R138, R145). -/
theorem coreSteps_kse_whole {s : State} (hp : s.ph = .kse) (hc : s.cnt = 0#4) :
    coreSteps 7 s = endKse
      { s with ek := generateEncryptionSubkeys s.kr, kr := rotl128 s.kr 47, kv := true, cnt := 6#4 } := by
  obtain ⟨E, hE, hrun⟩ := coreSteps_kse hp hc le_rfl
  have hek := subkeys_eq_of_getElem_eq (by decide) (kseWrite_extends hE)
  have hkr : rotl128 (rotl128 s.kr (25 * 6 % 128)) 25 = rotl128 s.kr 47 := rotl128_turn s.kr 6
  rw [coreSteps_succ hrun, ← hek, ← hkr]
  exact coreStep_kse_last hp rfl

/-- Inside phase `KSD`: the groups below `CNT` of `DK` are final (60_exceptions.md R206). -/
theorem coreSteps_ksd {s : State} (hp : s.ph = .ksd) (hc : s.cnt = 0#4) {n : Nat} (hn : n ≤ 8) :
    ∃ D : Subkeys, (∀ k : Fin 52, k.val < 6 * n → D[k] = (generateDecryptionSubkeys s.ek)[k]) ∧
      coreSteps n s = .next { s with dk := D, cnt := BitVec.ofNat 4 n } := by
  induction n with
  | zero => exact ⟨s.dk, by simp, by simp [coreSteps, ← hc]⟩
  | succ n ih =>
    obtain ⟨D, hD, hrun⟩ := ih (by omega)
    exact ⟨_, ksdWrite_extends hD, (coreSteps_succ hrun).trans (coreStep_ksd hp rfl (by omega))⟩

/-- The whole phase `KSD`, up to the end of phase (R145). -/
theorem coreSteps_ksd_whole {s : State} (hp : s.ph = .ksd) (hc : s.cnt = 0#4) :
    coreSteps 9 s = endKsd { s with dk := generateDecryptionSubkeys s.ek, dv := true, cnt := 8#4 } := by
  obtain ⟨D, hD, hrun⟩ := coreSteps_ksd hp hc le_rfl
  have hdk := subkeys_eq_of_getElem_eq (by decide) (ksdWrite_extends hD)
  rw [coreSteps_succ hrun, ← hdk]
  exact coreStep_ksd_last hp rfl

/-! ### The commands -/

/-- A command issued while idle whose check fails is refused (43_control.md R181). -/
theorem exec_refused {i : Instr} {s : State} {c : Cause} (hp : s.ph = .idle) (hcheck : checkOf i s = some c) :
    exec i s = .next (s.clearDone.raise c) := by
  rw [exec_eq_issue, issue_refused ((busy_eq_false_iff s).2 hp) hcheck]

theorem needKey_eq_some {s : State} (h : s.kw ≠ 0xFF#8) : needKey s = some .keylen := by simp [needKey, keyComplete, h]

@[simp] theorem seg_zero (j : Nat) : seg 0#128 j = 0#16 := by simp [seg]

/-- Every rotation of the all-zero key is zero, and so is every subkey. -/
theorem generateEncryptionSubkeys_zero : generateEncryptionSubkeys 0#128 = Vector.replicate 52 0#16 := by
  refine Vector.ext fun i hi => ?_
  rw [generateEncryptionSubkeys_getElem, rotl128_iterate, Vector.getElem_replicate]
  simp [rotl128]

theorem modMulInverse_eq {a r : Word} (h : modMul a r = 1#16) : modMulInverse a = r := ((modMul_eq_one_iff a r).1 h).symm

/-- The words of the schedule of the example key that the examples of R143 and R144 are made from, by the closed form. -/
theorem generateEncryptionSubkeys_exampleKey :
    subkey (generateEncryptionSubkeys exampleKey) 3 = 0x0004#16 ∧
    subkey (generateEncryptionSubkeys exampleKey) 8 = 0x0400#16 ∧
    subkey (generateEncryptionSubkeys exampleKey) 48 = 0x0080#16 ∧
    subkey (generateEncryptionSubkeys exampleKey) 49 = 0x00C0#16 ∧
    subkey (generateEncryptionSubkeys exampleKey) 51 = 0x0140#16 := by
  have hword (n j : Nat) (hj : j < 8) (h : 8 * n + j < 52) := subkey_generateEncryptionSubkeys exampleKey hj h
  refine ⟨(hword 0 3 ?_ ?_).trans ?_, (hword 1 0 ?_ ?_).trans ?_, (hword 6 0 ?_ ?_).trans ?_, (hword 6 1 ?_ ?_).trans ?_,
    (hword 6 3 ?_ ?_).trans ?_⟩
  all_goals decide

/-- Settles O8: acceptance starts phase `KSE` from the key, and the whole phase completes the command. -/
theorem ekgenBuildsTheEncryptionSchedule : Obligations.EkgenBuildsTheEncryptionSchedule := by
  obtain ⟨_, hek8, _, _, hek51⟩ := generateEncryptionSubkeys_exampleKey
  refine ⟨rfl, fun s => exec_busy .ekgen, fun s hp hkw => ?_, fun s hp hkw => ?_, generateEncryptionSubkeys_zero, hek8, hek51,
    by decide⟩
  · exact exec_refused (i := .ekgen) (c := .keylen) hp (needKey_eq_some hkw)
  · refine ⟨_, exec_accepted hp ((needKey_eq_none_iff s).2 hkw), rfl, ?_⟩
    exact (coreSteps_kse_whole rfl rfl).trans (endKse_ekgen rfl)

/-- Settles O9: acceptance starts phase `KSD`, and the whole phase completes the command. -/
theorem dkgenBuildsTheDecryptionSchedule : Obligations.DkgenBuildsTheDecryptionSchedule := by
  obtain ⟨hek3, _, hek48, hek49, _⟩ := generateEncryptionSubkeys_exampleKey
  have hdk (k : Nat) (hk : k < 52) := subkey_generateDecryptionSubkeys_eq_dkInverse (generateEncryptionSubkeys exampleKey) hk
  refine ⟨rfl, fun s => exec_busy .dkgen, fun s hp hkv => ?_, fun s hp hkv => ?_, modMulInverse_eq (by decide), by decide,
    ?_, ?_, ?_⟩
  · exact exec_refused (i := .dkgen) (c := .subkeys) hp ((needEk_eq s).trans (if_pos hkv))
  · refine ⟨_, exec_accepted hp ((needEk_eq_none_iff s).2 hkv), rfl, ?_⟩
    exact (coreSteps_ksd_whole rfl rfl).trans (endKsd_dkgen rfl)
  · calc _ = modMulInverse _ := hdk 0 (by decide)
      _ = 0xFE01#16 := (congrArg modMulInverse hek48).trans (modMulInverse_eq (by decide))
  · calc _ = modAddInverse _ := hdk 1 (by decide)
      _ = 0xFF40#16 := (congrArg modAddInverse hek49).trans (by decide)
  · calc _ = modMulInverse _ := hdk 51 (by decide)
      _ = 0xC001#16 := (congrArg modMulInverse hek3).trans (modMulInverse_eq (by decide))

end Sys2Proof.Machine
end

section
/-! PROOF. The round engine's functions (42_round_engine.md R150 to R155). A round is a key layer, lines (1) to (4), then a mixing
layer, lines (5) to (14), which is its own inverse; the output transformation is a key layer. Run with the decryption schedule, the
engine meets the layers of the first run in reverse order and undoes each. -/

namespace Sys2Proof.Machine

/-! ### Words -/

theorem modMul_modMul_modMulInverse (a k : Word) : modMul (modMul a k) (modMulInverse k) = a := by
  rw [modMul_assoc, modMul_modMulInverse, modMul_one]

theorem modAdd_modAdd_modAddInverse (a k : Word) : modAdd (modAdd a k) (modAddInverse k) = a := by
  rw [modAdd_eq_add, modAdd_eq_add, modAddInverse_eq_neg, add_neg_cancel_right]

theorem xor16_xor16_cancel (a k : Word) : xor16 (xor16 a k) k = a := by
  rw [xor16, xor16, BitVec.xor_assoc, BitVec.xor_self, BitVec.xor_zero]

theorem xor16_xor16_xor16 (a b k : Word) : xor16 (xor16 a k) (xor16 b k) = xor16 a b := by
  rw [xor16, xor16, xor16, BitVec.xor_comm b k, BitVec.xor_assoc, ← BitVec.xor_assoc k, BitVec.xor_self, BitVec.zero_xor, xor16]

/-! ### The layers of a round -/

/-- Lines (1) to (4) of a round with the subkeys of round `r` (R150). -/
def keyLayer (S : Subkeys) (r : Nat) (X : Block) : Block where
  x0 := modMul X.x0 (subkey S (6 * r))
  x1 := modAdd X.x1 (subkey S (6 * r + 1))
  x2 := modAdd X.x2 (subkey S (6 * r + 2))
  x3 := modMul X.x3 (subkey S (6 * r + 3))

/-- Lines (5) to (14) of a round with the subkeys of round `r`, each word at the place of the word of lines (1) to (4) it is made
from (R150). -/
def mixLayer (S : Subkeys) (r : Nat) (Y : Block) : Block :=
  let seven := modMul (xor16 Y.x0 Y.x2) (subkey S (6 * r + 4))
  let nine := modMul (modAdd (xor16 Y.x1 Y.x3) seven) (subkey S (6 * r + 5))
  let ten := modAdd seven nine
  { x0 := xor16 Y.x0 nine, x1 := xor16 Y.x1 ten, x2 := xor16 Y.x2 nine, x3 := xor16 Y.x3 ten }

/-- The exchange of the two middle words on the hand-on to the next round (R151). -/
def crossed (X : Block) : Block := { X with x1 := X.x2, x2 := X.x1 }

@[simp] theorem crossed_crossed (X : Block) : crossed (crossed X) = X := rfl

/-- A round whose result another round takes. -/
theorem fullRound_of_lt (S : Subkeys) {r : Nat} (hr : r < 7) (X : Block) :
    fullRound S r X = crossed (mixLayer S r (keyLayer S r X)) := by
  have hlast : (r == 7) = false := beq_false_of_ne (by omega)
  rw [fullRound, hlast]
  rfl

/-- The last round hands its words on untwisted. -/
theorem fullRound_seven (S : Subkeys) (X : Block) : fullRound S 7 X = mixLayer S 7 (keyLayer S 7 X) := rfl

/-- The output transformation takes its subkeys where a ninth round would. -/
theorem outT_eq_keyLayer (S : Subkeys) (X : Block) : outT S X = keyLayer S 8 X := rfl

/-- The mixing layer keeps the two sums that lines (5) and (6) take, so it adds the same words a second time. -/
theorem mixLayer_mixLayer (S : Subkeys) (r : Nat) (Y : Block) : mixLayer S r (mixLayer S r Y) = Y := by
  simp only [mixLayer, xor16_xor16_xor16, xor16_xor16_cancel]

/-! ### The layers of the decryption schedule -/

section
variable (S : Subkeys) {m n : Nat}

/-- Round `n` of the decryption schedule mixes with the subkeys round `7 - n` mixed with (R134). -/
theorem mixLayer_generateDecryptionSubkeys (h : m + n = 7) (Y : Block) :
    mixLayer (generateDecryptionSubkeys S) n Y = mixLayer S m Y := by
  obtain ⟨_, _, _, _, h4, h5⟩ := (decryptionScheduleByRule S).1 n (by omega)
  have hbase : 46 - 6 * n = 6 * m + 4 := by omega
  rw [hbase] at h4 h5
  simp only [mixLayer, h4, h5]

/-- The first key layer of the decryption schedule undoes the output transformation. -/
theorem keyLayer_zero_outT (X : Block) : keyLayer (generateDecryptionSubkeys S) 0 (outT S X) = X := by
  obtain ⟨h0, h1, h2, h3, _, _⟩ := (decryptionScheduleByRule S).1 0 (by decide)
  simp only [keyLayer, outT, h0, h1, h2, h3, if_true, Nat.mul_zero, Nat.sub_zero, Nat.reduceAdd, modMul_modMul_modMulInverse,
    modAdd_modAdd_modAddInverse]

/-- The output transformation of the decryption schedule undoes the first key layer. -/
theorem outT_keyLayer_zero (X : Block) : outT (generateDecryptionSubkeys S) (keyLayer S 0 X) = X := by
  obtain ⟨_, h0, h1, h2, h3⟩ := decryptionScheduleByRule S
  simp only [keyLayer, outT, h0, h1, h2, h3, Nat.mul_zero, Nat.zero_add, modMul_modMul_modMulInverse,
    modAdd_modAdd_modAddInverse]

/-- An inner key layer of the decryption schedule undoes the key layer of its group across the exchange of the middle words: that is
what its crossed additive subkeys are for (R134). -/
theorem keyLayer_crossed_keyLayer (h : m + n = 8) (hm : 0 < m) (hn : 0 < n) (X : Block) :
    keyLayer (generateDecryptionSubkeys S) n (crossed (keyLayer S m X)) = crossed X := by
  obtain ⟨h0, h1, h2, h3, _, _⟩ := (decryptionScheduleByRule S).1 n (by omega)
  have hbase : 46 - 6 * n + 2 = 6 * m := by omega
  have hbase1 : 46 - 6 * n + 4 = 6 * m + 2 := by omega
  have hbase2 : 46 - 6 * n + 3 = 6 * m + 1 := by omega
  have hbase3 : 46 - 6 * n + 5 = 6 * m + 3 := by omega
  rw [hbase] at h0
  rw [if_neg hn.ne', hbase1] at h1
  rw [if_neg hn.ne', hbase2] at h2
  rw [hbase3] at h3
  simp only [keyLayer, crossed, h0, h1, h2, h3, modMul_modMul_modMulInverse, modAdd_modAdd_modAddInverse]

end

/-! ### The round trip -/

/-- After `n` rounds of the decryption schedule and its next key layer, the engine holds the block as it was after the mixing layer of
round `7 - n` of the first run. -/
theorem keyLayer_roundsUpTo_transformBlock (S : Subkeys) (X : Block) {m n : Nat} (h : m + n = 7) :
    keyLayer (generateDecryptionSubkeys S) n (roundsUpTo (generateDecryptionSubkeys S) n (transformBlock S X)) =
      mixLayer S m (keyLayer S m (roundsUpTo S m X)) := by
  induction n generalizing m with
  | zero =>
    obtain rfl : m = 7 := h
    exact (keyLayer_zero_outT S _).trans (fullRound_seven S _)
  | succ n ih =>
    have hround : roundsUpTo (generateDecryptionSubkeys S) (n + 1) (transformBlock S X) =
        crossed (keyLayer S (m + 1) (roundsUpTo S (m + 1) X)) := by
      rw [roundsUpTo, fullRound_of_lt _ (by omega), ih (m := m + 1) (by omega),
        mixLayer_generateDecryptionSubkeys S (m := m + 1) (by omega), mixLayer_mixLayer]
    calc _ = crossed (roundsUpTo S (m + 1) X) := by
          rw [hround, keyLayer_crossed_keyLayer S (by omega) m.succ_pos n.succ_pos]
      _ = mixLayer S m (keyLayer S m (roundsUpTo S m X)) := by
          rw [roundsUpTo, fullRound_of_lt S (by omega), crossed_crossed]

/-- R155, on the block as a 4-tuple. -/
theorem transformBlock_transformBlock (S : Subkeys) (X : Block) :
    transformBlock (generateDecryptionSubkeys S) (transformBlock S X) = X := by
  have hlast := keyLayer_roundsUpTo_transformBlock S X (m := 0) (n := 7) rfl
  rw [transformBlock, roundsUpTo, fullRound_seven, hlast, mixLayer_generateDecryptionSubkeys S (m := 0) rfl, mixLayer_mixLayer]
  exact outT_keyLayer_zero S X

/-- Settles O28: `transform` is `transformBlock` between a split and a join of the block. -/
theorem decryptionKeysUndoTransform : Obligations.DecryptionKeysUndoTransform := by
  intro B S
  rw [transform, transform, blockOfBits_blockBits, transformBlock_transformBlock, blockBits_blockOfBits]

/-- Settles O27: `decrypt` transforms with the decryption schedule of the sequence `encrypt` transforms with. -/
theorem decryptUndoesEncrypt : Obligations.DecryptUndoesEncrypt := fun B K =>
  decryptionKeysUndoTransform B (generateEncryptionSubkeys K)

/-- Settles O29: the decryption schedule gives a left inverse, and a right one since it is an involution. -/
theorem transformIsBijective : Obligations.TransformIsBijective := by
  intro S
  have hleft (T : Subkeys) (B : Block64) := decryptionKeysUndoTransform B T
  refine Function.bijective_iff_has_inverse.2 ⟨(transform · (generateDecryptionSubkeys S)), hleft S, fun B => ?_⟩
  have hright := hleft (generateDecryptionSubkeys S) B
  rwa [generateDecryptionSubkeys_generateDecryptionSubkeys] at hright

end Sys2Proof.Machine
end

section
/-! PROOF. Phase `RND` (42_round_engine.md R158, R163): one core step, the whole phase by induction on `CNT`, and the commands
`XFORM.E`, `XFORM.D`, `ENCRYPT` and `DECRYPT`, whose phases follow each other without a step between (43_control.md R182). -/

namespace Sys2Proof.Machine

/-! ### Core steps of phase `RND` -/

section
variable {s : State} {n : Nat}

/-- A command with an even opcode has mode bit 0 and reads `EK`. -/
theorem selectedSubkeys_of_even {i : Instr} (hcur : s.cur = i.opcode) (hmode : i.opcode.getLsbD 0 = false) :
    selectedSubkeys s = s.ek := by rw [selectedSubkeys, hcur, hmode]; rfl

/-- A command with an odd opcode has mode bit 1 and reads `DK`. -/
theorem selectedSubkeys_of_odd {i : Instr} (hcur : s.cur = i.opcode) (hmode : i.opcode.getLsbD 0 = true) :
    selectedSubkeys s = s.dk := by rw [selectedSubkeys, hcur, hmode]; rfl

/-- A full round. -/
theorem coreStep_rnd (hp : s.ph = .rnd) (hc : s.cnt = BitVec.ofNat 4 n) (hn : n < 8) :
    coreStep s = .next { s with x := fullRound (selectedSubkeys s) n s.x, cnt := BitVec.ofNat 4 (n + 1) } := by
  have hnat : s.cnt.toNat = n := by rw [hc, BitVec.toNat_ofNat]; omega
  have hround : s.cnt.toNat ≤ 7 := by omega
  calc coreStep s = .next s.rndData.count := by simp [coreStep, hp, rndStep, hnat, hn]
    _ = _ := by rw [BitVec.ofNat_add, ← hc, ← hnat, State.rndData, if_pos hround]; rfl

/-- The output transformation, at whose end every command completes. -/
theorem coreStep_rnd_last (hp : s.ph = .rnd) (hc : s.cnt = BitVec.ofNat 4 8) :
    coreStep s = .next { s with x := outT (selectedSubkeys s) s.x, ph := .idle, cnt := 0#4, done := true } := by
  have hnat : s.cnt.toNat = 8 := by rw [hc]; rfl
  simp [coreStep, hp, rndStep, hnat, State.rndData, State.complete]

end

/-- Settles O32: a full round is the fourteen lines and their hand-on, and the last step the output transformation. -/
theorem rndStepByRule : Obligations.RndStepByRule := by
  rintro s r hp hc - SK rfl
  refine ⟨fun hr => ?_, ?_⟩
  · rintro one two three four five six seven eight nine ten rfl rfl rfl rfl rfl rfl rfl rfl rfl rfl
    rw [coreStep_rnd hp hc (by omega)]
    by_cases h7 : r = 7
    · subst h7; rfl
    · rw [if_neg h7, fullRound, handOn, if_neg (by simpa using h7)]; rfl
  · rintro rfl
    exact coreStep_rnd_last hp hc

/-- Inside phase `RND`: after `n` core steps `X` holds the block after `n` rounds (60_exceptions.md R206). -/
theorem coreSteps_rnd {s : State} (hp : s.ph = .rnd) (hc : s.cnt = 0#4) {n : Nat} (hn : n ≤ 8) :
    coreSteps n s = .next { s with x := roundsUpTo (selectedSubkeys s) n s.x, cnt := BitVec.ofNat 4 n } := by
  induction n with
  | zero => simp [coreSteps, roundsUpTo, ← hc]
  | succ n ih => exact (coreSteps_succ (ih (by omega))).trans (coreStep_rnd hp rfl (by omega))

/-- The whole phase `RND` transforms the block in `X` and completes the command (R163). -/
theorem coreSteps_rnd_whole {s : State} {S : Subkeys} (hp : s.ph = .rnd) (hc : s.cnt = 0#4) (hS : selectedSubkeys s = S) :
    coreSteps 9 s = .next { s with
      x := blockOfBits (transform (blockBits s.x) S), ph := .idle, cnt := 0#4, done := true } := by
  rw [coreSteps_succ (coreSteps_rnd hp hc le_rfl), transform, blockOfBits_blockBits, blockOfBits_blockBits, ← hS]
  exact coreStep_rnd_last hp rfl

/-- A run of core steps goes on from where its first part ends. -/
theorem coreSteps_add {m : Nat} {s t : State} (h : coreSteps m s = .next t) (n : Nat) :
    coreSteps (m + n) s = coreSteps n t := by
  induction m generalizing s with
  | zero =>
    cases h
    rw [Nat.zero_add]
  | succ m ih =>
    rw [Nat.succ_add]
    rw [coreSteps] at h ⊢
    cases hs : coreStep s with
    | next u => rw [hs] at h; exact ih h
    | fault f => simp [hs] at h
    | refused r => simp [hs] at h

/-! ### The checks of the round engine's commands, in their order -/

section
variable {p q : State → Option Cause} {s : State}

/-- The first check that fails is the one recorded (60_exceptions.md R198). -/
theorem firstOf_eq_some_left {c : Cause} (h : p s = some c) : firstOf p q s = some c := by simp [firstOf, h]

theorem firstOf_eq_right (h : p s = none) : firstOf p q s = q s := by simp [firstOf, h]

theorem needBlock_eq_some (h : s.xw ≠ 0xF#4) : needBlock s = some .len := by simp [needBlock, blockComplete, h]

/-- The key is the first check of `ENCRYPT` and `DECRYPT`. -/
theorem needKey_firstOf_eq_some (h : s.kw ≠ 0xFF#8) : firstOf needKey q s = some .keylen :=
  firstOf_eq_some_left (needKey_eq_some h)

/-- The block is the last check of all four commands. -/
theorem firstOf_needBlock_eq_some (hfirst : p s = none) (h : s.xw ≠ 0xF#4) : firstOf p needBlock s = some .len :=
  (firstOf_eq_right hfirst).trans (needBlock_eq_some h)

end

/-! ### The example of the command rules -/

/-- The block the examples of R159 and R161 leave, evaluated. -/
theorem encrypt_exampleKey : encrypt 0x0000000100020003#64 exampleKey = 0x11FBED2B01986DE5#64 := by decide +kernel

/-- The examples of R160 and R162 are those of R159 and R161 undone. -/
theorem decrypt_exampleKey : decrypt 0x11FBED2B01986DE5#64 exampleKey = 0x0000000100020003#64 := by
  rw [← encrypt_exampleKey, decryptUndoesEncrypt]

/-! ### The commands -/

/-- Settles O10: acceptance starts phase `RND` with the mode bit 0, which selects `EK`. -/
theorem xformETransformsWithEk : Obligations.XformETransformsWithEk := by
  refine ⟨rfl, fun s => exec_busy .xformE, fun s hp hkv => ?_, fun s hp hkv hxw => ?_, fun s hp hkv hxw => ?_,
    encrypt_exampleKey⟩
  · have hcheck : needEk s = some .subkeys := (needEk_eq s).trans (if_pos hkv)
    exact exec_refused (i := .xformE) hp (firstOf_eq_some_left hcheck)
  · exact exec_refused (i := .xformE) hp (firstOf_needBlock_eq_some ((needEk_eq_none_iff s).2 hkv) hxw)
  · exact ⟨_, exec_accepted hp ((checkOf_eq_none_iff .xformE s).2 ⟨hkv, hxw⟩), rfl,
      coreSteps_rnd_whole rfl rfl (selectedSubkeys_of_even (i := .xformE) rfl rfl)⟩

/-- Settles O11: acceptance starts phase `RND` with the mode bit 1, which selects `DK`. -/
theorem xformDTransformsWithDk : Obligations.XformDTransformsWithDk := by
  refine ⟨rfl, fun s => exec_busy .xformD, fun s hp hdv => ?_, fun s hp hdv hxw => ?_, fun s hp hdv hxw => ?_,
    decrypt_exampleKey⟩
  · have hcheck : needDk s = some .subkeys := (needDk_eq s).trans (if_pos hdv)
    exact exec_refused (i := .xformD) hp (firstOf_eq_some_left hcheck)
  · exact exec_refused (i := .xformD) hp (firstOf_needBlock_eq_some ((needDk_eq_none_iff s).2 hdv) hxw)
  · exact ⟨_, exec_accepted hp ((checkOf_eq_none_iff .xformD s).2 ⟨hdv, hxw⟩), rfl,
      coreSteps_rnd_whole rfl rfl (selectedSubkeys_of_odd (i := .xformD) rfl rfl)⟩

/-- Settles O12: phase `KSE` ends in the start of phase `RND`, with the schedule of the key in `EK`. -/
theorem encryptRunsScheduleThenRounds : Obligations.EncryptRunsScheduleThenRounds := by
  refine ⟨rfl, fun s => exec_busy .encrypt, fun s hp hkw => ?_, fun s hp hkw hxw => ?_, fun s hp hkw hxw => ?_,
    encrypt_exampleKey⟩
  · exact exec_refused (i := .encrypt) hp (needKey_firstOf_eq_some hkw)
  · exact exec_refused (i := .encrypt) hp (firstOf_needBlock_eq_some ((needKey_eq_none_iff s).2 hkw) hxw)
  · have hkse := (coreSteps_kse_whole (s := startOf .encrypt (s.clearDone.accept .encrypt)) rfl rfl).trans (endKse_encrypt rfl)
    exact ⟨_, _, exec_accepted hp ((checkOf_eq_none_iff .encrypt s).2 ⟨hkw, hxw⟩), rfl, hkse, rfl, rfl, rfl, rfl,
      (coreSteps_add hkse 9).trans (coreSteps_rnd_whole rfl rfl (selectedSubkeys_of_even (i := .encrypt) rfl rfl))⟩

/-- Settles O13: phase `KSE` ends in the start of phase `KSD`, and that in the start of phase `RND`. -/
theorem decryptRunsBothSchedulesThenRounds : Obligations.DecryptRunsBothSchedulesThenRounds := by
  refine ⟨rfl, fun s => exec_busy .decrypt, fun s hp hkw => ?_, fun s hp hkw hxw => ?_, fun s hp hkw hxw => ?_,
    decrypt_exampleKey⟩
  · exact exec_refused (i := .decrypt) hp (needKey_firstOf_eq_some hkw)
  · exact exec_refused (i := .decrypt) hp (firstOf_needBlock_eq_some ((needKey_eq_none_iff s).2 hkw) hxw)
  · have hkse := (coreSteps_kse_whole (s := startOf .decrypt (s.clearDone.accept .decrypt)) rfl rfl).trans (endKse_decrypt rfl)
    have hksd := (coreSteps_add hkse 9).trans ((coreSteps_ksd_whole rfl rfl).trans (endKsd_decrypt rfl))
    exact ⟨_, _, _, exec_accepted hp ((checkOf_eq_none_iff .decrypt s).2 ⟨hkw, hxw⟩), rfl, hkse, rfl, rfl, rfl, rfl, hksd,
      rfl, rfl, rfl, rfl,
      (coreSteps_add hksd 9).trans (coreSteps_rnd_whole rfl rfl (selectedSubkeys_of_odd (i := .decrypt) rfl rfl))⟩

/-! ### The round trips of the machine -/

/-- Settles O59: `ENCRYPT` leaves the key and the masks, so `DECRYPT` is accepted with the same key. -/
theorem encryptThenDecryptRestoresX : Obligations.EncryptThenDecryptRestoresX := by
  intro s hp hkw hxw
  obtain ⟨_, _, _, _, hencrypt, _⟩ := encryptRunsScheduleThenRounds
  obtain ⟨_, _, _, _, hdecrypt, _⟩ := decryptRunsBothSchedulesThenRounds
  obtain ⟨t, _, ht, _, _, _, _, _, _, hrun⟩ := hencrypt s hp hkw hxw
  obtain ⟨u, hu, hpu, hkwu, hxwu, hx, hkey, herr⟩ : ∃ u, coreSteps 16 t = .next u ∧ u.ph = .idle ∧ u.kw = 0xFF#8 ∧
      u.xw = 0xF#4 ∧ u.x = blockOfBits (encrypt (blockBits s.x) (keyBits s.key)) ∧ u.key = s.key ∧ u.err = s.err :=
    ⟨_, hrun, rfl, hkw, hxw, rfl, rfl, rfl⟩
  obtain ⟨v, _, _, hv, _, _, _, _, _, _, _, _, _, _, _, hw⟩ := hdecrypt u hpu hkwu hxwu
  refine ⟨t, u, v, _, ht, hu, hv, hw, ?_, hkey, herr⟩
  rw [hkey, hx, blockBits_blockOfBits, decryptUndoesEncrypt (blockBits s.x), blockOfBits_blockBits]

/-- Settles O60: on a sound machine `DK` is the decryption schedule of `EK`. -/
theorem xformEThenXformDRestoresX : Obligations.XformEThenXformDRestoresX := by
  intro s hs hp hdv hxw
  obtain ⟨_, _, _, _, hxformE, _⟩ := xformETransformsWithEk
  obtain ⟨_, _, _, _, hxformD, _⟩ := xformDTransformsWithDk
  have hkv := hs.dv_kv hdv
  obtain ⟨t, ht, _, hrun⟩ := hxformE s hp hkv hxw
  obtain ⟨u, hu, hpu, hdvu, hkvu, hxwu, hx, hek, hdk⟩ : ∃ u, coreSteps 9 t = .next u ∧ u.ph = .idle ∧ u.dv = true ∧
      u.kv = true ∧ u.xw = 0xF#4 ∧ u.x = blockOfBits (transform (blockBits s.x) s.ek) ∧ u.ek = s.ek ∧ u.dk = s.dk :=
    ⟨_, hrun, rfl, hdv, hkv, hxw, rfl, rfl, rfl⟩
  obtain ⟨v, hv, _, hw⟩ := hxformD u hpu hdvu hxwu
  refine ⟨t, u, v, _, ht, hu, hv, hw, ?_, hek, hdk, hkvu, hdvu⟩
  rw [hx, hdk, hs.dv_dk hdv, blockBits_blockOfBits, decryptionKeysUndoTransform (blockBits s.x), blockOfBits_blockBits]

end Sys2Proof.Machine
end

section
/-! PROOF. The control unit (43_control.md R180, R181, R184): the acceptance of a command word, `NOP`, and that every core step of a
sound machine has a row in the table of R182, so that no step stops the machine. -/

namespace Sys2Proof.Machine

/-! ### Acceptance and `NOP` -/

/-- Settles O37: the write of CMD while idle is the acceptance of the word, which is the pseudocode of R181. -/
theorem acceptanceByRule : Obligations.AcceptanceByRule := fun _ w hp =>
  (hostWrite_cmd_idle hp w).trans (acceptWord_eq_acceptByRule hp w)

/-- No two commands share a word (30_encoding.md R81). -/
theorem encode_injective : Function.Injective encode := fun i j h => by
  simpa using congrArg decode h

/-- `NOP` has no check, and its start is `complete` (43_control.md R180). -/
theorem exec_nop {s : State} (hp : s.ph = .idle) :
    exec .nop s = .next { s with cur := 0x0#4, ph := .idle, cnt := 0#4, done := true } :=
  exec_accepted hp rfl

/-- Settles O1: commands have different words, the effects are those of an issue, and the example is evaluated. -/
theorem nopSetsCurAndCompletes : Obligations.NopSetsCurAndCompletes :=
  ⟨rfl, fun _ h => encode_injective h, fun _ => exec_nop, fun _ => exec_busy .nop, _, exec_nop rfl, by decide⟩

/-! ### No core step of a sound machine stops -/

/-- The count of a phase's last core step, 0 where there is none (43_control.md R182). -/
def lastCount : Phase → Nat
  | .idle => 0
  | .kse => 6
  | .ksd | .rnd => 8

section
variable {s : State}

/-- A row of 43_control.md R182 bounds `CNT`. -/
theorem Sound.cnt_le_lastCount (h : Sound s) {p : Phase} (hp : s.ph = p) : s.cnt.toNat ≤ lastCount p := by
  have hrow := h.row
  cases p <;> simp only [sequencerRow, hp, Bool.and_eq_true, beq_iff_eq, decide_eq_true_eq, BitVec.le_def] at hrow
  case idle => simp [hrow.1]
  all_goals exact hrow.1

/-- The end of phase `KSE` has a row for every command that passes through the phase. -/
theorem endKse_answers (hcur : s.cur = 0x6#4 ∨ s.cur = 0xA#4 ∨ s.cur = 0xB#4) : ∃ t, endKse s = .next t := by
  rcases hcur with hcur | hcur | hcur
  exacts [⟨_, endKse_ekgen hcur⟩, ⟨_, endKse_encrypt hcur⟩, ⟨_, endKse_decrypt hcur⟩]

/-- The end of phase `KSD` has a row for every command that passes through the phase. -/
theorem endKsd_answers (hcur : s.cur = 0x7#4 ∨ s.cur = 0xB#4) : ∃ t, endKsd s = .next t := by
  rcases hcur with hcur | hcur
  exacts [⟨_, endKsd_dkgen hcur⟩, ⟨_, endKsd_decrypt hcur⟩]

/-- A core step goes on inside its phase, or is the phase's last step, whose end has a row (43_control.md R182). -/
theorem Sound.coreStep_answers (h : Sound s) (hbusy : s.ph ≠ .idle) : ∃ t, coreStep s = .next t := by
  have hcnt : s.cnt = BitVec.ofNat 4 s.cnt.toNat := by simp
  cases hp : s.ph with
  | idle => exact absurd hp hbusy
  | kse =>
    rcases (h.cnt_le_lastCount hp).lt_or_eq with hlt | hlast
    · exact ⟨_, coreStep_kse hp hcnt hlt⟩
    · rw [coreStep_kse_last hp (hcnt.trans (congrArg _ hlast))]
      exact endKse_answers (h.kse_cur hp)
  | ksd =>
    rcases (h.cnt_le_lastCount hp).lt_or_eq with hlt | hlast
    · exact ⟨_, coreStep_ksd hp hcnt hlt⟩
    · rw [coreStep_ksd_last hp (hcnt.trans (congrArg _ hlast))]
      exact endKsd_answers (h.ksd_cur hp)
  | rnd =>
    rcases (h.cnt_le_lastCount hp).lt_or_eq with hlt | hlast
    · exact ⟨_, coreStep_rnd hp hcnt hlt⟩
    · exact ⟨_, coreStep_rnd_last hp (hcnt.trans (congrArg _ hlast))⟩

end

/-- Settles O56: quiescence and a host line always answer, and the list of turns plays no part in soundness. -/
theorem soundMachineNeverStops : Obligations.SoundMachineNeverStops := by
  intro s h
  rcases step_cases (s := s) rfl with ⟨_, _, hs⟩ | ⟨l, rest, ts, _, _, hs⟩ | ⟨ts, hb, _, hs⟩
  · exact ⟨s, hs⟩
  · rw [hs]
    exact performLine_answers l _
  · have hturns : Sound { s with turns := ts } := { h with }
    rw [hs]
    exact hturns.coreStep_answers ((busy_eq_true_iff s).1 hb)

end Sys2Proof.Machine
end

section
/-! PROOF. What is seen of a command in progress (60_exceptions.md R191, R206): the block between two rounds, and the frame of one
core step on the addresses the host can read. -/

namespace Sys2Proof.Machine

/-- Settles O36: the run of phase `RND` by induction on `CNT`, with the store the mode bit selects. -/
theorem roundsAreVisibleWhileBusy : Obligations.RoundsAreVisibleWhileBusy := fun _ _ hp hc hr => coreSteps_rnd hp hc hr

/-! ### The frame of a core step -/

/-- The command in progress and the host agent's own fields stay (43_control.md R182). -/
theorem coreStep_cur_host_turns_log {s t : State} (h : coreStep s = .next t) :
    t.cur = s.cur ∧ t.host = s.host ∧ t.turns = s.turns ∧ t.log = s.log := by
  rcases coreStep_cases h with
    ⟨_, _, rfl⟩ | ⟨_, _, _, rfl⟩ | ⟨_, _, _, rfl⟩ | ⟨_, _, _, rfl⟩ | ⟨_, _, rfl⟩ | ⟨_, _, _, rfl⟩ | ⟨_, _, _, rfl⟩ |
    ⟨_, _, rfl⟩ | ⟨_, _, rfl⟩ <;> simp

/-- Only phase `KSE` sets `KV`, and phase `RND` leaves `DV` (41_key_scheduler.md R137, R140, 42_round_engine.md R158). -/
theorem coreStep_valid_flags {s t : State} (h : coreStep s = .next t) :
    (s.ph ≠ .kse → t.kv = s.kv) ∧ (s.ph = .rnd → t.dv = s.dv) := by
  rcases coreStep_cases h with
    ⟨hp, _, rfl⟩ | ⟨hp, _, _, rfl⟩ | ⟨hp, _, _, rfl⟩ | ⟨hp, _, _, rfl⟩ | ⟨hp, _, rfl⟩ | ⟨hp, _, _, rfl⟩ |
    ⟨hp, _, _, rfl⟩ | ⟨hp, _, rfl⟩ | ⟨hp, _, rfl⟩ <;> simp [hp]

/-- A core step changes what STATUS and SEQ read, and the registers its phase owns. -/
theorem readReg_coreStep {s t : State} (h : coreStep s = .next t) {r : Reg} (hst : r ≠ .status) (hseq : r ≠ .seq)
    (hkse : s.ph = .kse → (∀ j, r ≠ .kr j) ∧ ∀ i, r ≠ .ek i) (hksd : s.ph = .ksd → ∀ i, r ≠ .dk i)
    (hrnd : s.ph = .rnd → ∀ j, r ≠ .x j) : readReg t r = readReg s r := by
  obtain ⟨hkey, hkw, hxw, hopa, hopb, hres, _⟩ := coreStep_keeps h
  obtain ⟨hek, hkr, hdk, hx⟩ := coreStep_changes h
  cases r with
  | status | seq => contradiction
  | cmd => rfl
  | key | opa | opb | res | masks => simp [readReg, masksWord, hkey, hopa, hopb, hres, hkw, hxw]
  | kr j =>
    have hsame : t.kr = s.kr := by_contra fun hne => (hkse (hkr hne)).1 j rfl
    exact congrArg (seg · j.val) hsame
  | ek i =>
    have hsame : t.ek = s.ek := by_contra fun hne => (hkse (hek hne)).2 i rfl
    exact congrArg (·[i]) hsame
  | dk i =>
    have hsame : t.dk = s.dk := by_contra fun hne => hksd (hdk hne) i rfl
    exact congrArg (·[i]) hsame
  | x j =>
    have hsame : t.x = s.x := by_contra fun hne => hrnd (hx hne) j rfl
    exact congrArg (blockWord · j) hsame

theorem addrOfReg_ek_bounds (i : Fin 52) : 0x40 ≤ (addrOfReg (.ek i)).toNat ∧ (addrOfReg (.ek i)).toNat ≤ 0x73 := by
  revert i
  decide

theorem addrOfReg_dk_bounds (i : Fin 52) : 0x80 ≤ (addrOfReg (.dk i)).toNat ∧ (addrOfReg (.dk i)).toNat ≤ 0xB3 := by
  revert i
  decide

/-- Settles O48: an unmapped address reads 0 in every state, and a mapped one reads its register. -/
theorem coreStepFrame : Obligations.CoreStepFrame := by
  intro s t h
  obtain ⟨_, _, _, _, _, _, herr⟩ := coreStep_keeps h
  obtain ⟨hcur, hagent⟩ := coreStep_cur_host_turns_log h
  obtain ⟨hkv, hdv⟩ := coreStep_valid_flags h
  refine ⟨fun a hst hseq hkse hksd hrnd => ?_, herr, hcur, hkv, hdv, hagent⟩
  cases hr : regOfAddr a with
  | none => simp only [readValue, hr]
  | some r =>
    obtain rfl := addrOfReg_of_regOfAddr hr
    rw [readValue_addrOfReg, readValue_addrOfReg]
    refine readReg_coreStep h (ne_of_apply_ne addrOfReg hst) (ne_of_apply_ne addrOfReg hseq)
      (fun hp => ⟨?_, ?_⟩) (fun hp => ?_) (fun hp => ?_)
    · rintro j rfl
      exact (hkse hp).1 (addrOfReg_kr_bounds j)
    · rintro i rfl
      exact (hkse hp).2 (addrOfReg_ek_bounds i)
    · rintro i rfl
      exact hksd hp (addrOfReg_dk_bounds i)
    · rintro j rfl
      exact hrnd hp ((addrOfReg_x_bounds j).imp_right Nat.le_of_lt_succ)

end Sys2Proof.Machine
end

section
/-! PROOF. Reset and progress (70_reset_and_hazards.md R220 to R227). A reset answers the reset state from any state. A core step's
control, `PH`, `CNT` and `CUR`, is a function of those three (`controlOf_coreStep`), and each core step lowers by one a count computed
from them (`coreStep_stepsLeft`): the core is idle when the count is used up, and every `WAIT` ends. -/

namespace Sys2Proof.Machine

/-! ### Reset -/

/-- Settles O49: with the host's line a `RST` and the host to move, the step is `resetCore`, which keeps nothing of the core. -/
theorem resetFromAnyState : Obligations.ResetFromAnyState := by
  intro s rest hh hmove
  obtain ⟨_, _, _, _, hreset⟩ := stepRunsTheDecodedCommand
  obtain ⟨hidle, hbusy⟩ := hreset s rest hh
  obtain ⟨u, hu⟩ : ∃ u : State, step s = .next u.resetCore := by
    by_cases hp : s.ph = .idle
    · exact ⟨{ s with host := rest }, hidle hp⟩
    · obtain ⟨ts, ht⟩ := List.head?_eq_some_iff.1 (hmove.resolve_left hp)
      exact ⟨{ s with host := rest, turns := ts }, hbusy ts hp ht⟩
  exact ⟨_, hu, rfl, rfl, rfl, rfl, rfl, rfl, rfl, rfl, rfl, rfl, rfl, rfl, rfl, rfl, rfl, rfl, rfl⟩

/-! ### Control does not depend on data -/

/-- What 43_control.md R182 chooses the core step by. -/
def State.control (s : State) : Phase × BitVec 4 × BitVec 4 := (s.ph, s.cnt, s.cur)

/-- An outcome with only the control of its next state kept. -/
def controlOf : Host.Outcome State Fault Refusal → Host.Outcome (Phase × BitVec 4 × BitVec 4) Fault Refusal
  | .next t => .next t.control
  | .fault f => .fault f
  | .refused r => .refused r

@[simp] theorem controlOf_next (t : State) : controlOf (.next t) = .next (t.ph, t.cnt, t.cur) := rfl

theorem controlOf_eq_next_iff (o : Host.Outcome State Fault Refusal) (c : Phase × BitVec 4 × BitVec 4) :
    controlOf o = .next c ↔ ∃ t, o = .next t ∧ t.control = c := by
  cases o <;> simp [controlOf]

theorem controlOf_eq_fault_iff (o : Host.Outcome State Fault Refusal) (f : Fault) :
    controlOf o = .fault f ↔ o = .fault f := by
  cases o <;> simp [controlOf]

section
variable {s s' : State}

theorem controlOf_endKse (hcur : s.cur = s'.cur) : controlOf (endKse s) = controlOf (endKse s') := by
  simp only [endKse, hcur]
  split_ifs <;> simp [hcur]

theorem controlOf_endKsd (hcur : s.cur = s'.cur) : controlOf (endKsd s) = controlOf (endKsd s') := by
  simp only [endKsd, hcur]
  split_ifs <;> simp [hcur]

/-- A core step branches on `PH`, `CNT` and `CUR` only, and writes to them nothing but constants and `CNT + 1`. -/
theorem controlOf_coreStep (hp : s.ph = s'.ph) (hcnt : s.cnt = s'.cnt) (hcur : s.cur = s'.cur) :
    controlOf (coreStep s) = controlOf (coreStep s') := by
  simp only [coreStep, hp]
  cases s'.ph with
  | idle => rfl
  | kse =>
    simp only [kseStep, hcnt]
    split_ifs
    · simp [hp, hcnt, hcur]
    · exact controlOf_endKse hcur
    · rfl
  | ksd =>
    simp only [ksdStep, hcnt]
    split_ifs
    · simp [hp, hcnt, hcur]
    · exact controlOf_endKsd hcur
    · rfl
  | rnd =>
    simp only [rndStep, hcnt]
    split_ifs
    · simp [hp, hcnt, hcur]
    · simp [hcur]
    · rfl

end

/-- Settles O35: both clauses are read off the equal controls of the two outcomes. -/
theorem controlIsDataIndependent : Obligations.ControlIsDataIndependent := by
  intro s s' hp hcnt hcur
  have hsame := controlOf_coreStep hp hcnt hcur
  refine ⟨fun t h => ?_, fun f h => ?_⟩
  · rw [h] at hsame
    obtain ⟨t', ht', hctl⟩ := (controlOf_eq_next_iff _ _).1 hsame.symm
    simp only [State.control, Prod.mk.injEq] at hctl
    exact ⟨t', ht', hctl⟩
  · rw [h] at hsame
    exact (controlOf_eq_fault_iff _ _).1 hsame.symm

/-! ### `BUSY` and `DONE` along a run of core steps -/

/-- The core has no step in phase `IDLE` (43_control.md R182). -/
theorem busy_of_coreStep {s t : State} (h : coreStep s = .next t) : s.ph ≠ .idle := by
  intro hp
  simp [coreStep, hp] at h

/-- `DONE` rises in the core step that ends the command, and no other core step changes it (43_control.md R182, R183). -/
theorem coreStep_done {s t : State} (h : coreStep s = .next t) :
    (t.ph ≠ .idle → t.done = s.done) ∧ (t.ph = .idle → t.done = true) := by
  rcases coreStep_cases h with
    ⟨hp, _, rfl⟩ | ⟨hp, _, _, rfl⟩ | ⟨hp, _, _, rfl⟩ | ⟨hp, _, _, rfl⟩ | ⟨hp, _, rfl⟩ | ⟨hp, _, _, rfl⟩ |
    ⟨hp, _, _, rfl⟩ | ⟨hp, _, rfl⟩ | ⟨hp, _, rfl⟩ <;> simp [hp]

/-- A run of core steps peels off its first step. -/
theorem coreSteps_next {n : Nat} {s t : State} (h : coreStep s = .next t) : coreSteps (n + 1) s = coreSteps n t := by
  simp only [coreSteps, h]

/-- Before each step of a run of core steps that answers, the core is busy and `DONE` is as it was. -/
theorem coreSteps_busy_before {N : Nat} {s t : State} (h : coreSteps N s = .next t) {k : Nat} (hk : k < N) :
    ∃ u, coreSteps k s = .next u ∧ u.ph ≠ .idle ∧ u.done = s.done := by
  induction N generalizing s k with
  | zero => omega
  | succ N ih =>
    cases hs : coreStep s with
    | fault f => simp [coreSteps, hs] at h
    | refused r => simp [coreSteps, hs] at h
    | next v =>
      rw [coreSteps_next hs] at h
      cases k with
      | zero => exact ⟨s, rfl, busy_of_coreStep hs, rfl⟩
      | succ k =>
        obtain ⟨u, hu, hpu, hdone⟩ := ih h (Nat.lt_of_succ_lt_succ hk)
        obtain ⟨v', hv', hpv, _⟩ := ih h (Nat.zero_lt_of_lt (Nat.lt_of_succ_lt_succ hk))
        cases hv'
        exact ⟨u, (coreSteps_next hs).trans hu, hpu, hdone.trans ((coreStep_done hs).1 hpv)⟩

/-! ### The number of core steps of a command -/

/-- A started command is idle, with `DONE` 1, after the core steps of its phases (43_control.md R182). -/
theorem coreSteps_startOf {i : Instr} {s : State} (hcur : s.cur = i.opcode) :
    ∃ t, coreSteps (stepCountByRule i) (startOf i s) = .next t ∧ t.ph = .idle ∧ t.done = true ∧ t.cur = i.opcode := by
  cases i with
  | nop | xor | add | addinv | mul | mulinv => exact ⟨_, rfl, rfl, rfl, by simpa using hcur⟩
  | ekgen => exact ⟨_, (coreSteps_kse_whole rfl rfl).trans (endKse_ekgen hcur), rfl, rfl, by simpa using hcur⟩
  | dkgen => exact ⟨_, (coreSteps_ksd_whole rfl rfl).trans (endKsd_dkgen hcur), rfl, rfl, by simpa using hcur⟩
  | xformE | xformD => exact ⟨_, coreSteps_rnd_whole rfl rfl rfl, rfl, rfl, by simpa using hcur⟩
  | encrypt =>
    have hkse := (coreSteps_kse_whole (s := s.startKse) rfl rfl).trans (endKse_encrypt hcur)
    exact ⟨_, (coreSteps_add hkse 9).trans (coreSteps_rnd_whole rfl rfl rfl), rfl, rfl, by simpa using hcur⟩
  | decrypt =>
    have hkse := (coreSteps_kse_whole (s := s.startKse) rfl rfl).trans (endKse_decrypt hcur)
    have hksd := (coreSteps_add hkse 9).trans ((coreSteps_ksd_whole rfl rfl).trans (endKsd_decrypt hcur))
    exact ⟨_, (coreSteps_add hksd 9).trans (coreSteps_rnd_whole rfl rfl rfl), rfl, rfl, by simpa using hcur⟩

/-- A command that is not over at once keeps the `DONE` it was accepted with. -/
theorem startOf_done_of_steps {i : Instr} (h : 0 < stepCountByRule i) (s : State) : (startOf i s).done = s.done := by
  cases i with
  | nop | xor | add | addinv | mul | mulinv => exact absurd h (lt_irrefl 0)
  | ekgen | dkgen | xformE | xformD | encrypt | decrypt => rfl

/-- Settles O33: acceptance takes `DONE` down, and the command's phases are all busy up to their last step. -/
theorem stepCountsAreFixed : Obligations.StepCountsAreFixed := by
  intro i s hp ha
  obtain ⟨u, hrun, hpu, hdone, hcur⟩ := coreSteps_startOf (i := i) (s := s.clearDone.accept i) rfl
  refine ⟨_, exec_accepted hp ((checkOf_eq_none_iff i s).2 ha), fun k hk => ?_,
    u, hrun, (busy_eq_false_iff u).2 hpu, hdone, hcur⟩
  obtain ⟨v, hv, hpv, hdv⟩ := coreSteps_busy_before hrun hk
  exact ⟨v, hv, (busy_eq_true_iff v).2 hpv, hdv.trans (startOf_done_of_steps (Nat.zero_lt_of_lt hk) _)⟩

/-! ### The core steps left to a command in progress -/

/-- The core steps of the phases that follow phase `KSE`, by the command in progress (43_control.md R182). -/
def stepsAfterKse (cur : BitVec 4) : Nat := if cur = 0xA#4 then 9 else if cur = 0xB#4 then 18 else 0

/-- The core steps of the phase that follows phase `KSD`, by the command in progress (43_control.md R182). -/
def stepsAfterKsd (cur : BitVec 4) : Nat := if cur = 0xB#4 then 9 else 0

/-- The core steps the command in progress still has: those of its phase, then those of the phases that follow. -/
def stepsLeft (s : State) : Nat :=
  match s.ph with
  | .idle => 0
  | .kse => 7 - s.cnt.toNat + stepsAfterKse s.cur
  | .ksd => 9 - s.cnt.toNat + stepsAfterKsd s.cur
  | .rnd => 9 - s.cnt.toNat

theorem stepsLeft_idle {s : State} (hp : s.ph = .idle) : stepsLeft s = 0 := by simp [stepsLeft, hp]

theorem stepsLeft_le (s : State) : stepsLeft s ≤ 25 := by
  have hkse : stepsAfterKse s.cur ≤ 18 := by unfold stepsAfterKse; split_ifs <;> decide
  have hksd : stepsAfterKsd s.cur ≤ 9 := by unfold stepsAfterKsd; split_ifs <;> decide
  unfold stepsLeft
  cases s.ph <;> simp only <;> omega

/-- Inside a phase a step counted is a step fewer. -/
theorem stepsLeft_count {s : State} (h : s.cnt.toNat < lastCount s.ph) : stepsLeft s.count + 1 = stepsLeft s := by
  have hcnt : s.cnt.toNat < 15 := h.trans (by cases s.ph <;> decide)
  unfold stepsLeft
  rw [count_cnt_toNat hcnt]
  cases hp : s.ph <;> simp only [hp, lastCount, State.count_ph, State.count_cur] at h ⊢ <;> omega

/-- A core step is one of the steps left. -/
theorem coreStep_stepsLeft {s t : State} (h : coreStep s = .next t) : stepsLeft t + 1 = stepsLeft s := by
  rcases coreStep_cases h with
    ⟨hp, hc, rfl⟩ | ⟨hp, hc, hcur, rfl⟩ | ⟨hp, hc, hcur, rfl⟩ | ⟨hp, hc, hcur, rfl⟩ | ⟨hp, hc, rfl⟩ | ⟨hp, hc, hcur, rfl⟩ |
    ⟨hp, hc, hcur, rfl⟩ | ⟨hp, hc, rfl⟩ | ⟨hp, hc, rfl⟩
  · exact stepsLeft_count (s := s.kseData) (by simpa [hp, lastCount] using hc)
  · simp [stepsLeft, hp, hc, hcur, stepsAfterKse]
  · simp [stepsLeft, hp, hc, hcur, stepsAfterKse]
  · simp [stepsLeft, hp, hc, hcur, stepsAfterKse, stepsAfterKsd]
  · exact stepsLeft_count (s := s.ksdData) (by simpa [hp, lastCount] using hc)
  · simp [stepsLeft, hp, hc, hcur, stepsAfterKsd]
  · simp [stepsLeft, hp, hc, hcur, stepsAfterKsd]
  · exact stepsLeft_count (s := s.rndData) (by simpa [hp, lastCount] using hc)
  · simp [stepsLeft, hp, hc]

/-- A sound busy core is idle, with `DONE` 1, after exactly the steps left. -/
theorem Sound.coreSteps_stepsLeft {s : State} (h : Sound s) (hp : s.ph ≠ .idle) :
    ∃ t, coreSteps (stepsLeft s) s = .next t ∧ t.ph = .idle ∧ t.done = true := by
  obtain ⟨u, hu⟩ := h.coreStep_answers hp
  have hleft := coreStep_stepsLeft hu
  by_cases hpu : u.ph = .idle
  · have hlast : stepsLeft s = 1 := by rw [← hleft, stepsLeft_idle hpu]
    exact ⟨u, by rw [hlast, coreSteps_next hu, coreSteps], hpu, (coreStep_done hu).2 hpu⟩
  · obtain ⟨t, ht, hend⟩ := (coreStep_sound h hu).coreSteps_stepsLeft hpu
    exact ⟨t, by rw [← hleft, coreSteps_next hu, ht], hend⟩
termination_by stepsLeft s

/-- Settles O34: the steps left are at least one while busy, and at most the 25 of `DECRYPT`. -/
theorem coreIsIdleWithin25Steps : Obligations.CoreIsIdleWithin25Steps := by
  intro s h hp
  obtain ⟨u, hu⟩ := h.coreStep_answers hp
  obtain ⟨t, ht, hend⟩ := h.coreSteps_stepsLeft hp
  have hleft := coreStep_stepsLeft hu
  exact ⟨stepsLeft s, t, by omega, stepsLeft_le s, ht, hend⟩

/-! ### Every `WAIT` ends -/

/-- How many more steps a `WAIT` can find the core busy: each uses up a listed turn or is one of the steps left. -/
def waitBound (s : State) : Nat := s.turns.length + stepsLeft s

/-- While the core is busy a step keeps the pending `WAIT` and lowers its bound, whoever moves. -/
theorem Sound.step_wait_busy {s : State} {rest : List HostLine} (h : Sound s) (hp : s.ph ≠ .idle)
    (hh : s.host = .wait :: rest) : ∃ t, step s = .next t ∧ t.host = .wait :: rest ∧ waitBound t < waitBound s := by
  obtain ⟨_, _, _, hwait, _⟩ := stepRunsTheDecodedCommand
  obtain ⟨t, hstep⟩ := soundMachineNeverStops s h
  refine ⟨t, hstep, ?_⟩
  have hcore (ht : s.turns.headD .core = .core) : t.host = .wait :: rest ∧ waitBound t < waitBound s := by
    rw [step_core_turn hp (by simp [hh]) ht] at hstep
    obtain ⟨_, hhost, hturns, _⟩ := coreStep_cur_host_turns_log hstep
    have hleft : stepsLeft t + 1 = stepsLeft s := (coreStep_stepsLeft hstep).trans rfl
    refine ⟨hhost.trans hh, ?_⟩
    simp only [waitBound, hturns, List.length_tail]
    omega
  cases hts : s.turns with
  | nil => exact hcore (by rw [hts]; rfl)
  | cons a ts =>
    cases a with
    | core => exact hcore (by rw [hts]; rfl)
    | host =>
      rw [(hwait s rest hh).2 ts hp hts] at hstep
      cases hstep
      refine ⟨hh, ?_⟩
      calc waitBound { s with turns := ts } = ts.length + stepsLeft s := rfl
        _ < waitBound s := by simp [waitBound, hts]

/-- A pending `WAIT` is performed within its bound and one step more, the read that finds `BUSY` at 0. -/
theorem Sound.run_wait {s : State} {rest : List HostLine} (h : Sound s) (hh : s.host = .wait :: rest) :
    ∃ n t, n ≤ waitBound s + 1 ∧ Host.Core.run Sys2Proof.core n s = .next t ∧ t.ph = .idle ∧ t.host = rest := by
  by_cases hp : s.ph = .idle
  · obtain ⟨_, _, _, hwait, _⟩ := stepRunsTheDecodedCommand
    exact ⟨1, _, by omega, run_next ((hwait s rest hh).1 hp), hp, rfl⟩
  · obtain ⟨u, hu, hhu, hlt⟩ := h.step_wait_busy hp hh
    obtain ⟨n, t, hn, hrun, hend⟩ := (everyStepKeepsSound s u h hu).run_wait hhu
    exact ⟨n + 1, t, by omega, (run_next hu).trans hrun, hend⟩
termination_by waitBound s

/-- Settles O58: the bound of the `WAIT` is the listed turns and at most 25 core steps. -/
theorem waitEnds : Obligations.WaitEnds := by
  intro s rest h hh
  obtain ⟨n, t, hn, hrun⟩ := h.run_wait hh
  have hleft := stepsLeft_le s
  exact ⟨n, t, by unfold waitBound at hn; omega, hrun⟩

end Sys2Proof.Machine
end
